-- ==== Sys2Proof/Word.lean ====
section
/-! DEFINITION. The machine's two word types (00_scope.md R5, R7): an 8-bit data word and a 16-bit address.
`+` and `-` on them are already `wrap8` and `wrap16`. -/

namespace Sys2Proof

/-- `u8`: the 8-bit data word (R5). -/
abbrev Byte := BitVec 8

/-- `u16`: a 16-bit address or program counter value (R5). -/
abbrev Addr := BitVec 16

end Sys2Proof
end

