-- ==== Sys2Proof/Machine/Bytes.lean ====
section
/-! DEFINITION. Byte-order, extension and narrowing helpers (00_scope.md R7, R8; 20_memory.md R51). -/

namespace Sys2Proof

/-- `lo(w) = w[7:0]` (R7). -/
def loByte (w : Addr) : Byte := w.setWidth 8

/-- `hi(w) = w[15:8]` (R7). -/
def hiByte (w : Addr) : Byte := w.extractLsb' 8 8

/-- `l + 256 * h`, the little-endian word of two bytes (R50, R51). -/
def wordOf (l h : Byte) : Addr := h ++ l

/-- `zext_16(v) = v` (R8). -/
def zext16 (b : Byte) : Addr := b.setWidth 16

/-- `sext_16(v) = wrap16(signed8(v))` (R8). -/
def sext16 (b : Byte) : Addr := b.signExtend 16

end Sys2Proof
end

