-- ==== Sys2Proof/Config.lean ====
section
/-! DEFINITION. What the machine's builder fixes and what lies outside the core: the open parameters of 00_scope.md R6
and the two free values. The free values have no body, so no proof can see what they are. -/

namespace Sys2Proof.Machine

/-- One thing that crosses the picture generator's interface (20_memory.md R46, R49). -/
inductive PpuEvent where
  /-- PpuRead of register `r`, answered `v`. -/
  | read (r : BitVec 3) (v : Byte)
  /-- PpuWrite of `v` to register `r`. -/
  | write (r : BitVec 3) (v : Byte)
  /-- PpuOamBurst of the 256 bytes of an OAM DMA, in transfer order. -/
  | oamBurst (bytes : List Byte)
deriving DecidableEq, Repr

end Sys2Proof.Machine

namespace Sys2Proof.Config

/-- The open parameters of 00_scope.md R6 that a running core reads. They are held in `State.params`, which no step
changes, so that a claim can be made for every setting (log 5). `Cart` is `State.cart`; TICKS_PER_FRAME is an argument
of `runFrame`. -/
structure Params where
  /-- JMP_IND_PAGE_BUG: JMP (ind) takes the pointer's high byte from the same page (R6, R102, D4). -/
  jmpIndPageBug : Bool
  /-- ZP_PTR_WRAP: the high byte of a zero-page pointer at $FF is read from $0000, not $0100 (R6, R103, R104, D3). -/
  zpPtrWrap : Bool
  /-- SP_POWERON: SP before the first RESET (R6, R37, D12). -/
  spPowerOn : Byte
deriving DecidableEq, Repr

/-- The defaults of 00_scope.md R6. -/
def Params.default : Params := { jmpIndPageBug := false, zpPtrWrap := true, spPowerOn := 0x00#8 }

/-- FREE VALUE (log 1). What the picture generator answers to its `n`-th read, of register `r`, after all that has crossed
its interface (newest first), when the host has laid down no answer: R46 fixes no value ("it returns a byte the model does
not fix"). -/
opaque ppuDraw (n : Nat) (log : List Machine.PpuEvent) (r : BitVec 3) : Byte

/-- FREE VALUE (log 2). What the cartridge named `id` answers at address `a` after the writes `ws` (newest first) have
been made to it: 20_memory.md R47 makes it a parameter, total and without side effects on reads. -/
opaque cartRead (id : Nat) (ws : List (Addr × Byte)) (a : Addr) : Byte

end Sys2Proof.Config
end

