-- ==== Sys2Proof/Machine/State.lean ====
section
/-! DEFINITION. The machine's state as plain data: the registers, RAM, counter and request inputs of 10_state.md R13 to R36, the
two pieces of external state of R34 (cartridge and picture generator), the open parameters of 00_scope.md R6 and the frame
driver's two variables (40_engine.md R106). -/

namespace Sys2Proof.Machine

/-- Bytes at cell numbers, as a list in one canonical form: cell numbers strictly rising, no byte 0. A cell that is not
listed holds 0 (10_state.md R30: "Any read that resolves to an uninitialized cell must yield 0"). -/
abbrev Memory := List Host.Cell

/-- The attached cartridge with its state (10_state.md R34, 20_memory.md R47; log 2). -/
inductive Cart where
  /-- The null cartridge: every read answers 0 and every write is discarded (R47). -/
  | null
  /-- A cartridge of plain memory, the fixture of 92_eei_decisions.md D29: ROM behind $8000 to $FFFF, RAM behind $6000 to
  $7FFF, cells numbered by bus address. -/
  | board (rom ram : Memory)
  /-- Any other cartridge, known by a name and by what has been written to it (newest first). What it answers is
  `Config.cartRead`. -/
  | external (id : Nat) (writes : List (Addr × Byte))
deriving DecidableEq, Repr

/-- The picture generator as the core sees it (10_state.md R34; log 1): everything that has crossed its interface, newest
first. `answers` and `draws` are the model's own: answers the host has laid down for the coming reads (U5), and the
number of reads made, so that every open answer is drawn afresh. -/
structure Ppu where
  log : List PpuEvent
  answers : List Byte
  draws : Nat
deriving DecidableEq, Repr

/-- The frame driver's variables, "host state" (40_engine.md R106): the running frame end and the re-entrancy guard. -/
structure FrameDriver where
  frameEnd : Rat
  busy : Bool
deriving DecidableEq, Repr

/-- The state of the machine between two instructions. -/
structure State where
  /-- A, accumulator (R14). -/
  a : Byte
  /-- X, index register (R15). -/
  x : Byte
  /-- Y, index register (R16). -/
  y : Byte
  /-- SP, stack pointer into page 1 (R18). -/
  sp : Byte
  /-- P, packed flags (R19). -/
  p : Byte
  /-- PC, program counter (R17). -/
  pc : Addr
  /-- Internal RAM, cells 0 to 2047 (R30). -/
  ram : Memory
  /-- The cycle counter (R31). -/
  tick : Nat
  /-- RESET request input (R32). -/
  resetReq : Bool
  /-- NMI request latch (R32). -/
  nmiPending : Bool
  /-- IRQ level input (R32). -/
  irqLine : Bool
  /-- The attached cartridge (R34). -/
  cart : Cart
  /-- The picture generator's interface (R34). -/
  ppu : Ppu
  /-- The open parameters of 00_scope.md R6; no step changes them. -/
  params : Config.Params
  /-- The frame driver's variables (40_engine.md R106); no step changes them. -/
  frame : FrameDriver
deriving DecidableEq, Repr

/-- Why the machine stops with a fault: there is no such reason. "There is no exception-based control flow inside the core"
(60_exceptions.md R173), so the type has no constructor. -/
inductive Fault
deriving DecidableEq, Repr

/-- Why an instruction has no meaning in the model. -/
inductive Refusal where
  /-- Raised by `exec` for an instruction the model does not give a meaning to. Safe: nothing can be proved of what the
  instruction does. No arm of `exec` raises it. -/
  | notModelled (mnemonic : String)
deriving DecidableEq, Repr

/-- What a step or an instruction ends in. -/
abbrev Result := Host.Outcome State Fault Refusal

/-- The machine right after the power-on RESET, with the defaults of 00_scope.md R6 (10_state.md R38, 70_reset_and_hazards.md
R197): SP is SP_POWERON - 3, PC the null cartridge's RESET vector. -/
def State.reset : State :=
  { a := 0x00#8, x := 0x00#8, y := 0x00#8, sp := 0xFD#8, p := 0x34#8, pc := 0x0000#16, ram := [], tick := 0,
    resetReq := false, nmiPending := false, irqLine := false, cart := .null,
    ppu := { log := [], answers := [], draws := 0 }, params := .default,
    frame := { frameEnd := 0, busy := false } }

end Sys2Proof.Machine
end

