-- ==== Sys2Proof/Machine/Update.lean ====
section
/-! DEFINITION. The one way each field of State is written. Their small lemmas are in Sys2Proof/Laws/State.lean. -/

namespace Sys2Proof.Machine

/-- Write `a` (R14). -/
def State.setA (s : State) (v : Byte) : State := { s with a := v }

/-- Write `x` (R15). -/
def State.setX (s : State) (v : Byte) : State := { s with x := v }

/-- Write `y` (R16). -/
def State.setY (s : State) (v : Byte) : State := { s with y := v }

/-- Write `sp` (R18). -/
def State.setSp (s : State) (v : Byte) : State := { s with sp := v }

/-- Write `p` (R19). -/
def State.setP (s : State) (v : Byte) : State := { s with p := v }

/-- Write `pc` (R17). -/
def State.setPc (s : State) (v : Addr) : State := { s with pc := v }

/-- Write `ram` (R30). -/
def State.setRam (s : State) (v : Memory) : State := { s with ram := v }

/-- Write `tick` (R31). -/
def State.setTick (s : State) (v : Nat) : State := { s with tick := v }

/-- Write `resetReq` (R32). -/
def State.setResetReq (s : State) (v : Bool) : State := { s with resetReq := v }

/-- Write `nmiPending` (R32). -/
def State.setNmiPending (s : State) (v : Bool) : State := { s with nmiPending := v }

/-- Write `irqLine` (R32). -/
def State.setIrqLine (s : State) (v : Bool) : State := { s with irqLine := v }

/-- Write `cart` (R34). -/
def State.setCart (s : State) (v : Cart) : State := { s with cart := v }

/-- Write `ppu` (R34). -/
def State.setPpu (s : State) (v : Ppu) : State := { s with ppu := v }

/-- Write `params` (00_scope.md R6). -/
def State.setParams (s : State) (v : Config.Params) : State := { s with params := v }

/-- Write `frame` (40_engine.md R106). -/
def State.setFrame (s : State) (v : FrameDriver) : State := { s with frame := v }

/-- `tick += n` (R31). -/
def State.addTicks (s : State) (n : Nat) : State := s.setTick (s.tick + n)

end Sys2Proof.Machine
end

