-- ==== Sys2Proof/Machine/Flags.lean ====
section
/-! DEFINITION. The status register P and every flag computation of the spec (10_state.md R19 to R29, 42_arithmetic.md R122, R123,
R126, 43_logic_shift.md R139, R141 to R144). -/

namespace Sys2Proof.Machine

/-- The eight bits of P (10_state.md R19; the eighth is U, 90_conflicts.md C1). -/
inductive Flag where
  | c | z | i | d | b | u | v | n
deriving DecidableEq, Repr

/-- Bit positions in P (10_state.md R19). -/
def Flag.bit : Flag → Nat
  | .c => 0 | .z => 1 | .i => 2 | .d => 3 | .b => 4 | .u => 5 | .v => 6 | .n => 7

/-- The byte with only this flag's bit set. -/
def Flag.mask (f : Flag) : Byte := 1#8 <<< f.bit

/-- One flag of a status byte. -/
def testFlag (p : Byte) (f : Flag) : Bool := p.getLsbD f.bit

/-- A status byte with one flag written and every other bit kept. -/
def withFlag (p : Byte) (f : Flag) (v : Bool) : Byte :=
  if v then p ||| f.mask else p &&& ~~~f.mask

/-- Read `P.f` (00_scope.md R9). -/
def State.flag (s : State) (f : Flag) : Bool := testFlag s.p f

/-- Write `P.f` (00_scope.md R9). -/
def State.setFlag (s : State) (f : Flag) (v : Bool) : State := s.setP (withFlag s.p f v)

/-- `SetZN(v)`: Z from `v == 0`, N from bit 7 of `v` (10_state.md R28). -/
def State.setZN (s : State) (v : Byte) : State := (s.setFlag .z (v == 0#8)).setFlag .n (v.getLsbD 7)

/-- `s <- A + m + (P.C ? 1 : 0)`, an integer 0 .. 511 (42_arithmetic.md R123). -/
def adcSum (a m : Byte) (c : Bool) : Nat := a.toNat + m.toNat + c.toNat

/-- `((A ^ s) & (m ^ s) & 0x80) != 0` (42_arithmetic.md R123); only bit 7 of `s` counts, so `s` is taken mod 256. -/
def adcOverflow (a m : Byte) (c : Bool) : Bool :=
  let s := BitVec.ofNat 8 (adcSum a m c)
  (((a ^^^ s) &&& (m ^^^ s)) &&& 0x80#8) != 0#8

/-- `AddWithCarry(m)`, the adder of ADC and SBC (42_arithmetic.md R123). -/
def State.addWithCarry (s : State) (m : Byte) : State :=
  let sum := adcSum s.a m (s.flag .c)
  let r := BitVec.ofNat 8 sum
  ((((s.setFlag .v (adcOverflow s.a m (s.flag .c))).setFlag .c (decide (0xFF < sum))).setA r).setZN r)

/-- `Compare(r, m)` of CMP, CPX and CPY (42_arithmetic.md R126, 90_conflicts.md C11). -/
def State.compare (s : State) (r m : Byte) : State :=
  ((s.setFlag .c (decide (m.toNat ≤ r.toNat))).setFlag .z (r == m)).setFlag .n ((r - m).getLsbD 7)

/-- The flags of BIT: Z from `A & m`, N and V from bits 7 and 6 of `m` alone (43_logic_shift.md R139). -/
def State.testBits (s : State) (m : Byte) : State :=
  ((s.setFlag .z ((s.a &&& m) == 0#8)).setFlag .n (m.getLsbD 7)).setFlag .v (m.getLsbD 6)

/-! The shifts' functions from an input byte and the carry to a result and a new carry (43_logic_shift.md R140). -/

/-- ASL (R141). -/
def aslFn (v : Byte) (_ : Bool) : Byte × Bool := (v <<< 1, v.getLsbD 7)

/-- LSR (R142). -/
def lsrFn (v : Byte) (_ : Bool) : Byte × Bool := (v >>> 1, v.getLsbD 0)

/-- ROL (R143). -/
def rolFn (v : Byte) (c : Bool) : Byte × Bool := ((v <<< 1) ||| (if c then 0x01#8 else 0x00#8), v.getLsbD 7)

/-- ROR (R144). -/
def rorFn (v : Byte) (c : Bool) : Byte × Bool := ((v >>> 1) ||| (if c then 0x80#8 else 0x00#8), v.getLsbD 0)

end Sys2Proof.Machine
end

