-- ==== Sys2Proof/Machine/Ops.lean ====
section
/-! DEFINITION. The named operations over memory, the bus and the stack (20_memory.md), and taking an interrupt, returning from one
and RESET (60_exceptions.md), each written once. -/

namespace Sys2Proof.Machine

/-! ### Memory in canonical form -/

/-- The byte of a cell; 0 where none is listed (10_state.md R30). -/
def Memory.read : Memory → Nat → Byte
  | [], _ => 0#8
  | (k, v) :: m, n => if k = n then v else Memory.read m n

/-- Remove a cell. -/
def Memory.erase : Memory → Nat → Memory
  | [], _ => []
  | (k, w) :: m, n => if k = n then Memory.erase m n else (k, w) :: Memory.erase m n

/-- Put a cell that is not listed in its place. -/
def Memory.insert : Memory → Nat → Byte → Memory
  | [], n, v => [(n, v)]
  | (k, w) :: m, n, v => if k < n then (k, w) :: Memory.insert m n v else (n, v) :: (k, w) :: m

/-- Write a cell, keeping the canonical form: writing 0 removes the cell. -/
def Memory.write (m : Memory) (n : Nat) (v : Byte) : Memory :=
  if v = 0#8 then Memory.erase m n else Memory.insert (Memory.erase m n) n v

/-- Cell numbers rise strictly from at least `lo` and no listed byte is 0. -/
def Memory.wfFrom : Nat → Memory → Bool
  | _, [] => true
  | lo, (k, v) :: m => decide (lo ≤ k) && v != 0#8 && Memory.wfFrom (k + 1) m

/-- The canonical form. -/
def Memory.wf (m : Memory) : Bool := Memory.wfFrom 0 m

/-- Every listed cell number lies in `[lo, hi)`. -/
def Memory.within (lo hi : Nat) (m : Memory) : Bool := m.all fun c => decide (lo ≤ c.1) && decide (c.1 < hi)

/-! ### The cartridge (20_memory.md R47) -/

/-- `Cart.read(cartState, a)`. -/
def Cart.read (c : Cart) (a : Addr) : Byte :=
  match c with
  | .null => 0#8
  | .board rom ram =>
    if 0x8000 ≤ a.toNat then Memory.read rom a.toNat
    else if 0x6000 ≤ a.toNat then Memory.read ram a.toNat
    else 0#8
  | .external id ws => Config.cartRead id ws a

/-- `Cart.write(cartState, a, v)`: the cartridge's next state. -/
def Cart.write (c : Cart) (a : Addr) (v : Byte) : Cart :=
  match c with
  | .null => .null
  | .board rom ram =>
    if 0x6000 ≤ a.toNat ∧ a.toNat < 0x8000 then .board rom (Memory.write ram a.toNat v) else .board rom ram
  | .external id ws => .external id ((a, v) :: ws)

/-! ### The picture generator's interface (20_memory.md R46, R49) -/

/-- What the picture generator answers to a read of register `r`: the next answer laid down, else a free value. -/
def Ppu.answer (u : Ppu) (r : BitVec 3) : Byte := u.answers.headD (Config.ppuDraw u.draws u.log r)

/-- `PpuRead(r)`'s effect on the picture generator's state. -/
def Ppu.afterRead (u : Ppu) (r : BitVec 3) : Ppu :=
  { log := .read r (u.answer r) :: u.log, answers := u.answers.tail, draws := u.draws + 1 }

/-- `PpuWrite(r, v)`. -/
def Ppu.write (u : Ppu) (r : BitVec 3) (v : Byte) : Ppu := { u with log := .write r v :: u.log }

/-- `PpuOamBurst(b)`. -/
def Ppu.oamBurst (u : Ppu) (bytes : List Byte) : Ppu := { u with log := .oamBurst bytes :: u.log }

/-! ### The bus -/

/-- Where an address routes (20_memory.md R41). -/
inductive Region where
  | ram (cell : Nat) | ppu (r : BitVec 3) | dma | stub | cart
deriving DecidableEq, Repr

/-- The routing "in priority order" (20_memory.md R41). -/
def route (a : Addr) : Region :=
  if a.toNat < 0x2000 then .ram (a &&& 0x07FF#16).toNat
  else if a.toNat < 0x4000 then .ppu ((a &&& 0x0007#16).setWidth 3)
  else if a = 0x4014#16 then .dma
  else if a.toNat < 0x4018 then .stub
  else .cart

/-- The byte a bus read of `a` answers (20_memory.md R43), without the read's side effect. -/
def State.peek (s : State) (a : Addr) : Byte :=
  match route a with
  | .ram k => Memory.read s.ram k
  | .ppu r => s.ppu.answer r
  | .dma | .stub => 0#8
  | .cart => s.cart.read a

/-- What a bus read of `a` leaves: only a read of the picture-generator window changes anything (20_memory.md R54). -/
def State.afterRead (s : State) (a : Addr) : State :=
  match route a with
  | .ppu r => s.setPpu (s.ppu.afterRead r)
  | _ => s

/-- `MemRead(a, 1)` (20_memory.md R43). -/
def State.busRead (s : State) (a : Addr) : Byte × State := (s.peek a, s.afterRead a)

/-- `MemRead(a, 2)`: low byte first, each byte routed on its own (20_memory.md R50). -/
def State.readWord (s : State) (a : Addr) : Addr × State :=
  let (l, s1) := s.busRead a
  let (h, s2) := s1.busRead (a + 1#16)
  (wordOf l h, s2)

/-- `n` bus reads in increasing address order. -/
def State.readBytes (s : State) (a : Addr) : Nat → List Byte × State
  | 0 => ([], s)
  | n + 1 =>
    let (b, s1) := s.busRead a
    let (bs, s2) := s1.readBytes (a + 1#16) n
    (b :: bs, s2)

/-- `OamDma(v, T0)` (20_memory.md R49). `tick` here is still T0: an instruction's other cycles are added after its accesses. -/
def State.oamDma (s : State) (v : Byte) : State :=
  let r := s.readBytes (wordOf 0#8 v) 256
  (r.2.setPpu (r.2.ppu.oamBurst r.1)).addTicks (513 + s.tick % 2)

/-- `MemWrite(a, 1, v)` (20_memory.md R44). -/
def State.busWrite (s : State) (a : Addr) (v : Byte) : State :=
  match route a with
  | .ram k => s.setRam (Memory.write s.ram k v)
  | .ppu r => s.setPpu (s.ppu.write r v)
  | .dma => s.oamDma v
  | .stub => s
  | .cart => s.setCart (s.cart.write a v)

/-! ### The stack (20_memory.md R55 to R58) -/

/-- The address `$0100 + SP`. -/
def stackAddr (sp : Byte) : Addr := wordOf sp 0x01#8

/-- `Push(v)`: decrement, then write (R55). -/
def State.push (s : State) (v : Byte) : State :=
  let s1 := s.setSp (s.sp - 1#8)
  s1.busWrite (stackAddr s1.sp) v

/-- `Pull()`: read, then increment (R56). -/
def State.pull (s : State) : Byte × State :=
  let (v, s1) := s.busRead (stackAddr s.sp)
  (v, s1.setSp (s1.sp + 1#8))

/-- `PushWord(w)`: high byte, then low byte (R57). -/
def State.pushWord (s : State) (w : Addr) : State := (s.push (hiByte w)).push (loByte w)

/-- `PullWord()`: low byte, then high byte (R58). -/
def State.pullWord (s : State) : Addr × State :=
  let (l, s1) := s.pull
  let (h, s2) := s1.pull
  (wordOf l h, s2)

/-! ### Interrupts, RESET and the return (60_exceptions.md) -/

/-- What NMI, IRQ and BRK entry share: push the return address and a status byte, set I, load PC from the vector
(60_exceptions.md R174, R180, R182; 44_control_flow.md R157). -/
def State.enterVia (s : State) (ret : Addr) (pushed : Byte) (vector : Addr) : State :=
  let s1 := ((s.pushWord ret).push pushed).setFlag .i true
  let (target, s2) := s1.readWord vector
  s2.setPc target

/-- `EnterInterrupt(vector)` of NMI and IRQ: the pushed P has bit 4 clear; 7 cycles (60_exceptions.md R180, R181, R183). -/
def State.enterInterrupt (s : State) (vector : Addr) : State :=
  (s.enterVia s.pc (withFlag s.p .b false) vector).addTicks 7

/-- The return of RTI: pull P verbatim, then PC (44_control_flow.md R158, 60_exceptions.md R186). -/
def State.returnFromInterrupt (s : State) : State :=
  let (p, s1) := s.pull
  let (target, s2) := (s1.setP p).pullWord
  s2.setPc target

/-- `ResetSequence()` (60_exceptions.md R179): no stack access, no cycles. -/
def State.resetSequence (s : State) : State :=
  let s1 := ((((s.setA 0#8).setX 0#8).setY 0#8).setP 0x34#8).setSp (s.sp - 3#8)
  let (target, s2) := s1.readWord 0xFFFC#16
  ((s2.setPc target).setResetReq false).setNmiPending false

end Sys2Proof.Machine
end

