-- ==== Sys2Proof/Machine/Boundary.lean ====
section
/-! DEFINITION. The requests an instruction boundary examines (60_exceptions.md R175 to R178, R181). -/

namespace Sys2Proof.Machine

/-- The state a pending request leads to, "in the order RESET, NMI, IRQ"; none when the boundary executes an instruction
(60_exceptions.md R175). The IRQ level is gated by I; NMI is not. -/
def State.takeRequest (s : State) : Option State :=
  if s.resetReq then some s.resetSequence
  else if s.nmiPending then some ((s.setNmiPending false).enterInterrupt 0xFFFA#16)
  else if s.irqLine && !s.flag .i then some (s.enterInterrupt 0xFFFE#16)
  else none

end Sys2Proof.Machine
end

