-- ==== Sys2Proof/Syntax.lean ====
section
/-! DEFINITION. The instruction set as syntax: the thirteen addressing modes, the 57 operations, and `Instr`, one constructor
for each of the 256 rows of opcode_table.json. A constructor carries the operand its addressing mode consumes
(30_encoding.md R71 to R74): nothing, the byte `op8`, or the word `op16`. -/

namespace Sys2Proof

/-- The thirteen addressing modes (30_encoding.md R75, 90_conflicts.md C3). -/
inductive Mode where
  | imp | acc | imm | rel | zp | zpX | zpY | abs | absX | absY | ind | indX | indY
deriving DecidableEq, Repr

/-- The operations the opcode table names: the 56 documented mnemonics (R78) and KIL (R172). -/
inductive Op where
  | lda | ldx | ldy | sta | stx | sty | tax | tay | txa | tya | tsx | txs
  | adc | sbc | cmp | cpx | cpy | inc | dec | inx | iny | dex | dey
  | and | ora | eor | bit | asl | lsr | rol | ror
  | bpl | bmi | bvc | bvs | bcc | bcs | bne | beq | jmp | jsr | rts | brk | rti
  | pha | php | pla | plp | clc | cld | cli | clv | sec | sed | sei | nop | kil
deriving DecidableEq, Repr

/-- The instructions, one constructor for each opcode. An undocumented opcode is named by its table mnemonic and its byte
(30_encoding.md R79). -/
inductive Instr where
  /-- `$A1` LDA INDX, R110. -/
  | ldaIndX (op8 : Byte)
  /-- `$A5` LDA ZP, R110. -/
  | ldaZp (op8 : Byte)
  /-- `$A9` LDA IMM, R110. -/
  | ldaImm (op8 : Byte)
  /-- `$AD` LDA ABS, R110. -/
  | ldaAbs (op16 : Addr)
  /-- `$B1` LDA INDY, R110. -/
  | ldaIndY (op8 : Byte)
  /-- `$B5` LDA ZPX, R110. -/
  | ldaZpX (op8 : Byte)
  /-- `$B9` LDA ABSY, R110. -/
  | ldaAbsY (op16 : Addr)
  /-- `$BD` LDA ABSX, R110. -/
  | ldaAbsX (op16 : Addr)
  /-- `$A2` LDX IMM, R111. -/
  | ldxImm (op8 : Byte)
  /-- `$A6` LDX ZP, R111. -/
  | ldxZp (op8 : Byte)
  /-- `$AE` LDX ABS, R111. -/
  | ldxAbs (op16 : Addr)
  /-- `$B6` LDX ZPY, R111. -/
  | ldxZpY (op8 : Byte)
  /-- `$BE` LDX ABSY, R111. -/
  | ldxAbsY (op16 : Addr)
  /-- `$A0` LDY IMM, R112. -/
  | ldyImm (op8 : Byte)
  /-- `$A4` LDY ZP, R112. -/
  | ldyZp (op8 : Byte)
  /-- `$AC` LDY ABS, R112. -/
  | ldyAbs (op16 : Addr)
  /-- `$B4` LDY ZPX, R112. -/
  | ldyZpX (op8 : Byte)
  /-- `$BC` LDY ABSX, R112. -/
  | ldyAbsX (op16 : Addr)
  /-- `$81` STA INDX, R113. -/
  | staIndX (op8 : Byte)
  /-- `$85` STA ZP, R113. -/
  | staZp (op8 : Byte)
  /-- `$8D` STA ABS, R113. -/
  | staAbs (op16 : Addr)
  /-- `$91` STA INDY, R113. -/
  | staIndY (op8 : Byte)
  /-- `$95` STA ZPX, R113. -/
  | staZpX (op8 : Byte)
  /-- `$99` STA ABSY, R113. -/
  | staAbsY (op16 : Addr)
  /-- `$9D` STA ABSX, R113. -/
  | staAbsX (op16 : Addr)
  /-- `$86` STX ZP, R114. -/
  | stxZp (op8 : Byte)
  /-- `$8E` STX ABS, R114. -/
  | stxAbs (op16 : Addr)
  /-- `$96` STX ZPY, R114. -/
  | stxZpY (op8 : Byte)
  /-- `$84` STY ZP, R115. -/
  | styZp (op8 : Byte)
  /-- `$8C` STY ABS, R115. -/
  | styAbs (op16 : Addr)
  /-- `$94` STY ZPX, R115. -/
  | styZpX (op8 : Byte)
  /-- `$AA` TAX IMP, R116. -/
  | tax
  /-- `$A8` TAY IMP, R117. -/
  | tay
  /-- `$8A` TXA IMP, R118. -/
  | txa
  /-- `$98` TYA IMP, R119. -/
  | tya
  /-- `$BA` TSX IMP, R120. -/
  | tsx
  /-- `$9A` TXS IMP, R121. -/
  | txs
  /-- `$61` ADC INDX, R124. -/
  | adcIndX (op8 : Byte)
  /-- `$65` ADC ZP, R124. -/
  | adcZp (op8 : Byte)
  /-- `$69` ADC IMM, R124. -/
  | adcImm (op8 : Byte)
  /-- `$6D` ADC ABS, R124. -/
  | adcAbs (op16 : Addr)
  /-- `$71` ADC INDY, R124. -/
  | adcIndY (op8 : Byte)
  /-- `$75` ADC ZPX, R124. -/
  | adcZpX (op8 : Byte)
  /-- `$79` ADC ABSY, R124. -/
  | adcAbsY (op16 : Addr)
  /-- `$7D` ADC ABSX, R124. -/
  | adcAbsX (op16 : Addr)
  /-- `$E1` SBC INDX, R125. -/
  | sbcIndX (op8 : Byte)
  /-- `$E5` SBC ZP, R125. -/
  | sbcZp (op8 : Byte)
  /-- `$E9` SBC IMM, R125. -/
  | sbcImm (op8 : Byte)
  /-- `$ED` SBC ABS, R125. -/
  | sbcAbs (op16 : Addr)
  /-- `$F1` SBC INDY, R125. -/
  | sbcIndY (op8 : Byte)
  /-- `$F5` SBC ZPX, R125. -/
  | sbcZpX (op8 : Byte)
  /-- `$F9` SBC ABSY, R125. -/
  | sbcAbsY (op16 : Addr)
  /-- `$FD` SBC ABSX, R125. -/
  | sbcAbsX (op16 : Addr)
  /-- `$C1` CMP INDX, R127. -/
  | cmpIndX (op8 : Byte)
  /-- `$C5` CMP ZP, R127. -/
  | cmpZp (op8 : Byte)
  /-- `$C9` CMP IMM, R127. -/
  | cmpImm (op8 : Byte)
  /-- `$CD` CMP ABS, R127. -/
  | cmpAbs (op16 : Addr)
  /-- `$D1` CMP INDY, R127. -/
  | cmpIndY (op8 : Byte)
  /-- `$D5` CMP ZPX, R127. -/
  | cmpZpX (op8 : Byte)
  /-- `$D9` CMP ABSY, R127. -/
  | cmpAbsY (op16 : Addr)
  /-- `$DD` CMP ABSX, R127. -/
  | cmpAbsX (op16 : Addr)
  /-- `$E0` CPX IMM, R128. -/
  | cpxImm (op8 : Byte)
  /-- `$E4` CPX ZP, R128. -/
  | cpxZp (op8 : Byte)
  /-- `$EC` CPX ABS, R128. -/
  | cpxAbs (op16 : Addr)
  /-- `$C0` CPY IMM, R129. -/
  | cpyImm (op8 : Byte)
  /-- `$C4` CPY ZP, R129. -/
  | cpyZp (op8 : Byte)
  /-- `$CC` CPY ABS, R129. -/
  | cpyAbs (op16 : Addr)
  /-- `$E6` INC ZP, R130. -/
  | incZp (op8 : Byte)
  /-- `$EE` INC ABS, R130. -/
  | incAbs (op16 : Addr)
  /-- `$F6` INC ZPX, R130. -/
  | incZpX (op8 : Byte)
  /-- `$FE` INC ABSX, R130. -/
  | incAbsX (op16 : Addr)
  /-- `$C6` DEC ZP, R131. -/
  | decZp (op8 : Byte)
  /-- `$CE` DEC ABS, R131. -/
  | decAbs (op16 : Addr)
  /-- `$D6` DEC ZPX, R131. -/
  | decZpX (op8 : Byte)
  /-- `$DE` DEC ABSX, R131. -/
  | decAbsX (op16 : Addr)
  /-- `$E8` INX IMP, R132. -/
  | inx
  /-- `$C8` INY IMP, R133. -/
  | iny
  /-- `$CA` DEX IMP, R134. -/
  | dex
  /-- `$88` DEY IMP, R135. -/
  | dey
  /-- `$21` AND INDX, R136. -/
  | andIndX (op8 : Byte)
  /-- `$25` AND ZP, R136. -/
  | andZp (op8 : Byte)
  /-- `$29` AND IMM, R136. -/
  | andImm (op8 : Byte)
  /-- `$2D` AND ABS, R136. -/
  | andAbs (op16 : Addr)
  /-- `$31` AND INDY, R136. -/
  | andIndY (op8 : Byte)
  /-- `$35` AND ZPX, R136. -/
  | andZpX (op8 : Byte)
  /-- `$39` AND ABSY, R136. -/
  | andAbsY (op16 : Addr)
  /-- `$3D` AND ABSX, R136. -/
  | andAbsX (op16 : Addr)
  /-- `$01` ORA INDX, R137. -/
  | oraIndX (op8 : Byte)
  /-- `$05` ORA ZP, R137. -/
  | oraZp (op8 : Byte)
  /-- `$09` ORA IMM, R137. -/
  | oraImm (op8 : Byte)
  /-- `$0D` ORA ABS, R137. -/
  | oraAbs (op16 : Addr)
  /-- `$11` ORA INDY, R137. -/
  | oraIndY (op8 : Byte)
  /-- `$15` ORA ZPX, R137. -/
  | oraZpX (op8 : Byte)
  /-- `$19` ORA ABSY, R137. -/
  | oraAbsY (op16 : Addr)
  /-- `$1D` ORA ABSX, R137. -/
  | oraAbsX (op16 : Addr)
  /-- `$41` EOR INDX, R138. -/
  | eorIndX (op8 : Byte)
  /-- `$45` EOR ZP, R138. -/
  | eorZp (op8 : Byte)
  /-- `$49` EOR IMM, R138. -/
  | eorImm (op8 : Byte)
  /-- `$4D` EOR ABS, R138. -/
  | eorAbs (op16 : Addr)
  /-- `$51` EOR INDY, R138. -/
  | eorIndY (op8 : Byte)
  /-- `$55` EOR ZPX, R138. -/
  | eorZpX (op8 : Byte)
  /-- `$59` EOR ABSY, R138. -/
  | eorAbsY (op16 : Addr)
  /-- `$5D` EOR ABSX, R138. -/
  | eorAbsX (op16 : Addr)
  /-- `$24` BIT ZP, R139. -/
  | bitZp (op8 : Byte)
  /-- `$2C` BIT ABS, R139. -/
  | bitAbs (op16 : Addr)
  /-- `$06` ASL ZP, R141. -/
  | aslZp (op8 : Byte)
  /-- `$0A` ASL ACC, R141. -/
  | aslAcc
  /-- `$0E` ASL ABS, R141. -/
  | aslAbs (op16 : Addr)
  /-- `$16` ASL ZPX, R141. -/
  | aslZpX (op8 : Byte)
  /-- `$1E` ASL ABSX, R141. -/
  | aslAbsX (op16 : Addr)
  /-- `$46` LSR ZP, R142. -/
  | lsrZp (op8 : Byte)
  /-- `$4A` LSR ACC, R142. -/
  | lsrAcc
  /-- `$4E` LSR ABS, R142. -/
  | lsrAbs (op16 : Addr)
  /-- `$56` LSR ZPX, R142. -/
  | lsrZpX (op8 : Byte)
  /-- `$5E` LSR ABSX, R142. -/
  | lsrAbsX (op16 : Addr)
  /-- `$26` ROL ZP, R143. -/
  | rolZp (op8 : Byte)
  /-- `$2A` ROL ACC, R143. -/
  | rolAcc
  /-- `$2E` ROL ABS, R143. -/
  | rolAbs (op16 : Addr)
  /-- `$36` ROL ZPX, R143. -/
  | rolZpX (op8 : Byte)
  /-- `$3E` ROL ABSX, R143. -/
  | rolAbsX (op16 : Addr)
  /-- `$66` ROR ZP, R144. -/
  | rorZp (op8 : Byte)
  /-- `$6A` ROR ACC, R144. -/
  | rorAcc
  /-- `$6E` ROR ABS, R144. -/
  | rorAbs (op16 : Addr)
  /-- `$76` ROR ZPX, R144. -/
  | rorZpX (op8 : Byte)
  /-- `$7E` ROR ABSX, R144. -/
  | rorAbsX (op16 : Addr)
  /-- `$10` BPL REL, R146. -/
  | bpl (op8 : Byte)
  /-- `$30` BMI REL, R147. -/
  | bmi (op8 : Byte)
  /-- `$50` BVC REL, R148. -/
  | bvc (op8 : Byte)
  /-- `$70` BVS REL, R149. -/
  | bvs (op8 : Byte)
  /-- `$90` BCC REL, R150. -/
  | bcc (op8 : Byte)
  /-- `$B0` BCS REL, R151. -/
  | bcs (op8 : Byte)
  /-- `$D0` BNE REL, R152. -/
  | bne (op8 : Byte)
  /-- `$F0` BEQ REL, R153. -/
  | beq (op8 : Byte)
  /-- `$4C` JMP ABS, R154. -/
  | jmpAbs (op16 : Addr)
  /-- `$6C` JMP IND, R154. -/
  | jmpInd (op16 : Addr)
  /-- `$20` JSR ABS, R155. -/
  | jsr (op16 : Addr)
  /-- `$60` RTS IMP, R156. -/
  | rts
  /-- `$00` BRK IMP, R157. -/
  | brk
  /-- `$40` RTI IMP, R158. -/
  | rti
  /-- `$48` PHA IMP, R159. -/
  | pha
  /-- `$08` PHP IMP, R160. -/
  | php
  /-- `$68` PLA IMP, R161. -/
  | pla
  /-- `$28` PLP IMP, R162. -/
  | plp
  /-- `$18` CLC IMP, R163. -/
  | clc
  /-- `$D8` CLD IMP, R164. -/
  | cld
  /-- `$58` CLI IMP, R165. -/
  | cli
  /-- `$B8` CLV IMP, R166. -/
  | clv
  /-- `$38` SEC IMP, R167. -/
  | sec
  /-- `$F8` SED IMP, R168. -/
  | sed
  /-- `$78` SEI IMP, R169. -/
  | sei
  /-- `$EA` NOP IMP, R170. -/
  | nop
  /-- `$03` NOP INDX, R171. -/
  | nop03 (op8 : Byte)
  /-- `$04` NOP ZP, R171. -/
  | nop04 (op8 : Byte)
  /-- `$07` NOP ZP, R171. -/
  | nop07 (op8 : Byte)
  /-- `$0B` NOP IMM, R171. -/
  | nop0B (op8 : Byte)
  /-- `$0C` NOP ABS, R171. -/
  | nop0C (op16 : Addr)
  /-- `$0F` NOP ABS, R171. -/
  | nop0F (op16 : Addr)
  /-- `$13` NOP INDY, R171. -/
  | nop13 (op8 : Byte)
  /-- `$14` NOP ZPX, R171. -/
  | nop14 (op8 : Byte)
  /-- `$17` NOP ZPX, R171. -/
  | nop17 (op8 : Byte)
  /-- `$1A` NOP IMP, R171. -/
  | nop1A
  /-- `$1B` NOP ABSY, R171. -/
  | nop1B (op16 : Addr)
  /-- `$1C` NOP ABSX, R171. -/
  | nop1C (op16 : Addr)
  /-- `$1F` NOP ABSX, R171. -/
  | nop1F (op16 : Addr)
  /-- `$23` NOP INDX, R171. -/
  | nop23 (op8 : Byte)
  /-- `$27` NOP ZP, R171. -/
  | nop27 (op8 : Byte)
  /-- `$2B` NOP IMM, R171. -/
  | nop2B (op8 : Byte)
  /-- `$2F` NOP ABS, R171. -/
  | nop2F (op16 : Addr)
  /-- `$33` NOP INDY, R171. -/
  | nop33 (op8 : Byte)
  /-- `$34` NOP ZPX, R171. -/
  | nop34 (op8 : Byte)
  /-- `$37` NOP ZPX, R171. -/
  | nop37 (op8 : Byte)
  /-- `$3A` NOP IMP, R171. -/
  | nop3A
  /-- `$3B` NOP ABSY, R171. -/
  | nop3B (op16 : Addr)
  /-- `$3C` NOP ABSX, R171. -/
  | nop3C (op16 : Addr)
  /-- `$3F` NOP ABSX, R171. -/
  | nop3F (op16 : Addr)
  /-- `$43` NOP INDX, R171. -/
  | nop43 (op8 : Byte)
  /-- `$44` NOP ZP, R171. -/
  | nop44 (op8 : Byte)
  /-- `$47` NOP ZP, R171. -/
  | nop47 (op8 : Byte)
  /-- `$4B` NOP IMM, R171. -/
  | nop4B (op8 : Byte)
  /-- `$4F` NOP ABS, R171. -/
  | nop4F (op16 : Addr)
  /-- `$53` NOP INDY, R171. -/
  | nop53 (op8 : Byte)
  /-- `$54` NOP ZPX, R171. -/
  | nop54 (op8 : Byte)
  /-- `$57` NOP ZPX, R171. -/
  | nop57 (op8 : Byte)
  /-- `$5A` NOP IMP, R171. -/
  | nop5A
  /-- `$5B` NOP ABSY, R171. -/
  | nop5B (op16 : Addr)
  /-- `$5C` NOP ABSX, R171. -/
  | nop5C (op16 : Addr)
  /-- `$5F` NOP ABSX, R171. -/
  | nop5F (op16 : Addr)
  /-- `$63` NOP INDX, R171. -/
  | nop63 (op8 : Byte)
  /-- `$64` NOP ZP, R171. -/
  | nop64 (op8 : Byte)
  /-- `$67` NOP ZP, R171. -/
  | nop67 (op8 : Byte)
  /-- `$6B` NOP IMM, R171. -/
  | nop6B (op8 : Byte)
  /-- `$6F` NOP ABS, R171. -/
  | nop6F (op16 : Addr)
  /-- `$73` NOP INDY, R171. -/
  | nop73 (op8 : Byte)
  /-- `$74` NOP ZPX, R171. -/
  | nop74 (op8 : Byte)
  /-- `$77` NOP ZPX, R171. -/
  | nop77 (op8 : Byte)
  /-- `$7A` NOP IMP, R171. -/
  | nop7A
  /-- `$7B` NOP ABSY, R171. -/
  | nop7B (op16 : Addr)
  /-- `$7C` NOP ABSX, R171. -/
  | nop7C (op16 : Addr)
  /-- `$7F` NOP ABSX, R171. -/
  | nop7F (op16 : Addr)
  /-- `$80` NOP IMM, R171. -/
  | nop80 (op8 : Byte)
  /-- `$82` NOP IMM, R171. -/
  | nop82 (op8 : Byte)
  /-- `$83` NOP INDX, R171. -/
  | nop83 (op8 : Byte)
  /-- `$87` NOP ZP, R171. -/
  | nop87 (op8 : Byte)
  /-- `$89` NOP IMM, R171. -/
  | nop89 (op8 : Byte)
  /-- `$8B` NOP IMM, R171. -/
  | nop8B (op8 : Byte)
  /-- `$8F` NOP ABS, R171. -/
  | nop8F (op16 : Addr)
  /-- `$93` NOP INDY, R171. -/
  | nop93 (op8 : Byte)
  /-- `$97` NOP ZPY, R171. -/
  | nop97 (op8 : Byte)
  /-- `$9B` NOP ABSY, R171. -/
  | nop9B (op16 : Addr)
  /-- `$9C` NOP ABSX, R171. -/
  | nop9C (op16 : Addr)
  /-- `$9E` NOP ABSY, R171. -/
  | nop9E (op16 : Addr)
  /-- `$9F` NOP ABSY, R171. -/
  | nop9F (op16 : Addr)
  /-- `$A3` NOP INDX, R171. -/
  | nopA3 (op8 : Byte)
  /-- `$A7` NOP ZP, R171. -/
  | nopA7 (op8 : Byte)
  /-- `$AB` NOP IMM, R171. -/
  | nopAB (op8 : Byte)
  /-- `$AF` NOP ABS, R171. -/
  | nopAF (op16 : Addr)
  /-- `$B3` NOP INDY, R171. -/
  | nopB3 (op8 : Byte)
  /-- `$B7` NOP ZPY, R171. -/
  | nopB7 (op8 : Byte)
  /-- `$BB` NOP ABSY, R171. -/
  | nopBB (op16 : Addr)
  /-- `$BF` NOP ABSY, R171. -/
  | nopBF (op16 : Addr)
  /-- `$C2` NOP IMM, R171. -/
  | nopC2 (op8 : Byte)
  /-- `$C3` NOP INDX, R171. -/
  | nopC3 (op8 : Byte)
  /-- `$C7` NOP ZP, R171. -/
  | nopC7 (op8 : Byte)
  /-- `$CB` NOP IMM, R171. -/
  | nopCB (op8 : Byte)
  /-- `$CF` NOP ABS, R171. -/
  | nopCF (op16 : Addr)
  /-- `$D3` NOP INDY, R171. -/
  | nopD3 (op8 : Byte)
  /-- `$D4` NOP ZPX, R171. -/
  | nopD4 (op8 : Byte)
  /-- `$D7` NOP ZPX, R171. -/
  | nopD7 (op8 : Byte)
  /-- `$DA` NOP IMP, R171. -/
  | nopDA
  /-- `$DB` NOP ABSY, R171. -/
  | nopDB (op16 : Addr)
  /-- `$DC` NOP ABSX, R171. -/
  | nopDC (op16 : Addr)
  /-- `$DF` NOP ABSX, R171. -/
  | nopDF (op16 : Addr)
  /-- `$E2` NOP IMM, R171. -/
  | nopE2 (op8 : Byte)
  /-- `$E3` NOP INDX, R171. -/
  | nopE3 (op8 : Byte)
  /-- `$E7` NOP ZP, R171. -/
  | nopE7 (op8 : Byte)
  /-- `$EB` NOP IMM, R171. -/
  | nopEB (op8 : Byte)
  /-- `$EF` NOP ABS, R171. -/
  | nopEF (op16 : Addr)
  /-- `$F3` NOP INDY, R171. -/
  | nopF3 (op8 : Byte)
  /-- `$F4` NOP ZPX, R171. -/
  | nopF4 (op8 : Byte)
  /-- `$F7` NOP ZPX, R171. -/
  | nopF7 (op8 : Byte)
  /-- `$FA` NOP IMP, R171. -/
  | nopFA
  /-- `$FB` NOP ABSY, R171. -/
  | nopFB (op16 : Addr)
  /-- `$FC` NOP ABSX, R171. -/
  | nopFC (op16 : Addr)
  /-- `$FF` NOP ABSX, R171. -/
  | nopFF (op16 : Addr)
  /-- `$02` KIL IMP, R172. -/
  | kil02
  /-- `$12` KIL IMP, R172. -/
  | kil12
  /-- `$22` KIL IMP, R172. -/
  | kil22
  /-- `$32` KIL IMP, R172. -/
  | kil32
  /-- `$42` KIL IMP, R172. -/
  | kil42
  /-- `$52` KIL IMP, R172. -/
  | kil52
  /-- `$62` KIL IMP, R172. -/
  | kil62
  /-- `$72` KIL IMP, R172. -/
  | kil72
  /-- `$92` KIL IMP, R172. -/
  | kil92
  /-- `$B2` KIL IMP, R172. -/
  | kilB2
  /-- `$D2` KIL IMP, R172. -/
  | kilD2
  /-- `$F2` KIL IMP, R172. -/
  | kilF2
deriving DecidableEq, Repr

end Sys2Proof
end

