-- ==== Sys2Proof/Decode.lean ====
section
/-! DEFINITION. The decode ROM (30_encoding.md R77, R80; 70_reset_and_hazards.md R206, R208), the decoder, total on any bytes
(R76), and after it the encoder, written from the same map. -/

namespace Sys2Proof

/-! ### The opcode table -/

/-- Operand bytes a mode consumes (30_encoding.md R72). -/
def Mode.operandBytes : Mode → Nat
  | .imp | .acc => 0
  | .imm | .rel | .zp | .zpX | .zpY | .indX | .indY => 1
  | .abs | .absX | .absY | .ind => 2

/-- Length of an instruction in bytes (30_encoding.md R72, R75). -/
def Mode.length (m : Mode) : Nat := m.operandBytes + 1

/-- The cell of a 16 by 16 table, row by the high nibble and column by the low nibble (the layout of R77 and R208). Both
nibbles are below 16, so the default is never met. -/
def byNibbles {α : Type} (rows : List (List α)) (b : Byte) (dflt : α) : α :=
  (rows.getD (b.toNat / 16) []).getD (b.toNat % 16) dflt

/-- One cell of the opcode map of 30_encoding.md R77. -/
structure Cell where
  op : Op
  mode : Mode
  official : Bool
deriving DecidableEq, Repr

/-- A documented cell. -/
def doc (o : Op) (m : Mode) : Cell := ⟨o, m, true⟩

/-- A cell marked `*`: an undocumented opcode treated as NOP (R79, R171). -/
def und (m : Mode) : Cell := ⟨.nop, m, false⟩

/-- A cell marked `*KIL` (R79, R172). -/
def kilCell : Cell := ⟨.kil, .imp, false⟩

/-- Row `0x` of R77. -/
def mapRow0 : List Cell :=
  [doc .brk .imp, doc .ora .indX, kilCell, und .indX,
   und .zp, doc .ora .zp, doc .asl .zp, und .zp,
   doc .php .imp, doc .ora .imm, doc .asl .acc, und .imm,
   und .abs, doc .ora .abs, doc .asl .abs, und .abs]

/-- Row `1x` of R77. -/
def mapRow1 : List Cell :=
  [doc .bpl .rel, doc .ora .indY, kilCell, und .indY,
   und .zpX, doc .ora .zpX, doc .asl .zpX, und .zpX,
   doc .clc .imp, doc .ora .absY, und .imp, und .absY,
   und .absX, doc .ora .absX, doc .asl .absX, und .absX]

/-- Row `2x` of R77. -/
def mapRow2 : List Cell :=
  [doc .jsr .abs, doc .and .indX, kilCell, und .indX,
   doc .bit .zp, doc .and .zp, doc .rol .zp, und .zp,
   doc .plp .imp, doc .and .imm, doc .rol .acc, und .imm,
   doc .bit .abs, doc .and .abs, doc .rol .abs, und .abs]

/-- Row `3x` of R77. -/
def mapRow3 : List Cell :=
  [doc .bmi .rel, doc .and .indY, kilCell, und .indY,
   und .zpX, doc .and .zpX, doc .rol .zpX, und .zpX,
   doc .sec .imp, doc .and .absY, und .imp, und .absY,
   und .absX, doc .and .absX, doc .rol .absX, und .absX]

/-- Row `4x` of R77. -/
def mapRow4 : List Cell :=
  [doc .rti .imp, doc .eor .indX, kilCell, und .indX,
   und .zp, doc .eor .zp, doc .lsr .zp, und .zp,
   doc .pha .imp, doc .eor .imm, doc .lsr .acc, und .imm,
   doc .jmp .abs, doc .eor .abs, doc .lsr .abs, und .abs]

/-- Row `5x` of R77. -/
def mapRow5 : List Cell :=
  [doc .bvc .rel, doc .eor .indY, kilCell, und .indY,
   und .zpX, doc .eor .zpX, doc .lsr .zpX, und .zpX,
   doc .cli .imp, doc .eor .absY, und .imp, und .absY,
   und .absX, doc .eor .absX, doc .lsr .absX, und .absX]

/-- Row `6x` of R77. -/
def mapRow6 : List Cell :=
  [doc .rts .imp, doc .adc .indX, kilCell, und .indX,
   und .zp, doc .adc .zp, doc .ror .zp, und .zp,
   doc .pla .imp, doc .adc .imm, doc .ror .acc, und .imm,
   doc .jmp .ind, doc .adc .abs, doc .ror .abs, und .abs]

/-- Row `7x` of R77. -/
def mapRow7 : List Cell :=
  [doc .bvs .rel, doc .adc .indY, kilCell, und .indY,
   und .zpX, doc .adc .zpX, doc .ror .zpX, und .zpX,
   doc .sei .imp, doc .adc .absY, und .imp, und .absY,
   und .absX, doc .adc .absX, doc .ror .absX, und .absX]

/-- Row `8x` of R77. -/
def mapRow8 : List Cell :=
  [und .imm, doc .sta .indX, und .imm, und .indX,
   doc .sty .zp, doc .sta .zp, doc .stx .zp, und .zp,
   doc .dey .imp, und .imm, doc .txa .imp, und .imm,
   doc .sty .abs, doc .sta .abs, doc .stx .abs, und .abs]

/-- Row `9x` of R77. -/
def mapRow9 : List Cell :=
  [doc .bcc .rel, doc .sta .indY, kilCell, und .indY,
   doc .sty .zpX, doc .sta .zpX, doc .stx .zpY, und .zpY,
   doc .tya .imp, doc .sta .absY, doc .txs .imp, und .absY,
   und .absX, doc .sta .absX, und .absY, und .absY]

/-- Row `Ax` of R77. -/
def mapRowA : List Cell :=
  [doc .ldy .imm, doc .lda .indX, doc .ldx .imm, und .indX,
   doc .ldy .zp, doc .lda .zp, doc .ldx .zp, und .zp,
   doc .tay .imp, doc .lda .imm, doc .tax .imp, und .imm,
   doc .ldy .abs, doc .lda .abs, doc .ldx .abs, und .abs]

/-- Row `Bx` of R77. -/
def mapRowB : List Cell :=
  [doc .bcs .rel, doc .lda .indY, kilCell, und .indY,
   doc .ldy .zpX, doc .lda .zpX, doc .ldx .zpY, und .zpY,
   doc .clv .imp, doc .lda .absY, doc .tsx .imp, und .absY,
   doc .ldy .absX, doc .lda .absX, doc .ldx .absY, und .absY]

/-- Row `Cx` of R77. -/
def mapRowC : List Cell :=
  [doc .cpy .imm, doc .cmp .indX, und .imm, und .indX,
   doc .cpy .zp, doc .cmp .zp, doc .dec .zp, und .zp,
   doc .iny .imp, doc .cmp .imm, doc .dex .imp, und .imm,
   doc .cpy .abs, doc .cmp .abs, doc .dec .abs, und .abs]

/-- Row `Dx` of R77. -/
def mapRowD : List Cell :=
  [doc .bne .rel, doc .cmp .indY, kilCell, und .indY,
   und .zpX, doc .cmp .zpX, doc .dec .zpX, und .zpX,
   doc .cld .imp, doc .cmp .absY, und .imp, und .absY,
   und .absX, doc .cmp .absX, doc .dec .absX, und .absX]

/-- Row `Ex` of R77. -/
def mapRowE : List Cell :=
  [doc .cpx .imm, doc .sbc .indX, und .imm, und .indX,
   doc .cpx .zp, doc .sbc .zp, doc .inc .zp, und .zp,
   doc .inx .imp, doc .sbc .imm, doc .nop .imp, und .imm,
   doc .cpx .abs, doc .sbc .abs, doc .inc .abs, und .abs]

/-- Row `Fx` of R77. -/
def mapRowF : List Cell :=
  [doc .beq .rel, doc .sbc .indY, kilCell, und .indY,
   und .zpX, doc .sbc .zpX, doc .inc .zpX, und .zpX,
   doc .sed .imp, doc .sbc .absY, und .imp, und .absY,
   und .absX, doc .sbc .absX, doc .inc .absX, und .absX]

/-- The opcode map of R77, row by row. -/
def opcodeMap : List (List Cell) :=
  [mapRow0, mapRow1, mapRow2, mapRow3, mapRow4, mapRow5, mapRow6, mapRow7,
   mapRow8, mapRow9, mapRowA, mapRowB, mapRowC, mapRowD, mapRowE, mapRowF]

/-- The base-cycle table of 70_reset_and_hazards.md R208, row by row. -/
def baseCycles : List (List Nat) :=
  [[7, 6, 2, 8, 3, 3, 5, 5, 3, 2, 2, 2, 4, 4, 6, 6],
   [2, 5, 2, 8, 4, 4, 6, 6, 2, 4, 2, 7, 4, 4, 7, 7],
   [6, 6, 2, 8, 3, 3, 5, 5, 4, 2, 2, 2, 4, 4, 6, 6],
   [2, 5, 2, 8, 4, 4, 6, 6, 2, 4, 2, 7, 4, 4, 7, 7],
   [6, 6, 2, 8, 3, 3, 5, 5, 3, 2, 2, 2, 3, 4, 6, 6],
   [2, 5, 2, 8, 4, 4, 6, 6, 2, 4, 2, 7, 4, 4, 7, 7],
   [6, 6, 2, 8, 3, 3, 5, 5, 4, 2, 2, 2, 5, 4, 6, 6],
   [2, 5, 2, 8, 4, 4, 6, 6, 2, 4, 2, 7, 4, 4, 7, 7],
   [2, 6, 2, 6, 3, 3, 3, 3, 2, 2, 2, 2, 4, 4, 4, 4],
   [2, 6, 2, 6, 4, 4, 4, 4, 2, 5, 2, 5, 5, 5, 5, 5],
   [2, 6, 2, 6, 3, 3, 3, 3, 2, 2, 2, 2, 4, 4, 4, 4],
   [2, 5, 2, 5, 4, 4, 4, 4, 2, 4, 2, 4, 4, 4, 4, 4],
   [2, 6, 2, 8, 3, 3, 5, 5, 2, 2, 2, 2, 4, 4, 6, 6],
   [2, 5, 2, 8, 4, 4, 6, 6, 2, 4, 2, 7, 4, 4, 7, 7],
   [2, 6, 2, 8, 3, 3, 5, 5, 2, 2, 2, 2, 4, 4, 6, 6],
   [2, 5, 2, 8, 4, 4, 6, 6, 2, 4, 2, 7, 4, 4, 7, 7]]

/-- The 32 opcodes that pay the page-cross cycle (70_reset_and_hazards.md R206). -/
def penaltyOpcodes : List Byte :=
  [0x1D#8, 0x19#8, 0x11#8, 0x3D#8, 0x39#8, 0x31#8, 0x5D#8, 0x59#8, 0x51#8, 0x7D#8, 0x79#8, 0x71#8,
   0xBD#8, 0xB9#8, 0xB1#8, 0xDD#8, 0xD9#8, 0xD1#8, 0xFD#8, 0xF9#8, 0xF1#8,
   0xBE#8, 0xBC#8, 0x1C#8, 0x3C#8, 0x5C#8, 0x7C#8, 0xDC#8, 0xFC#8, 0xB3#8, 0xBF#8, 0xBB#8]

/-- One entry of the 256-entry table: operation, addressing mode, base cycles, whether a page cross costs a cycle, and whether
the opcode is documented (30_encoding.md R80). -/
structure Entry where
  op : Op
  mode : Mode
  base : Nat
  pen : Bool
  official : Bool
deriving DecidableEq, Repr

/-- The decode ROM `Table[opcode]` (30_encoding.md R80, 40_engine.md R88). -/
def table (opcode : Byte) : Entry :=
  let c := byNibbles opcodeMap opcode kilCell
  { op := c.op, mode := c.mode, base := byNibbles baseCycles opcode 0,
    pen := penaltyOpcodes.contains opcode, official := c.official }

/-! ### The decoder -/

/-- An opcode with no operand bytes (format F1 of 30_encoding.md R71). -/
def f1 (c : Instr) : Byte → Byte → Instr := fun _ _ => c

/-- An opcode with one operand byte (format F2). -/
def f2 (c : Byte → Instr) : Byte → Byte → Instr := fun b1 _ => c b1

/-- An opcode with a little-endian operand word (format F3; R74). -/
def f3 (c : Addr → Instr) : Byte → Byte → Instr := fun b1 b2 => c (wordOf b1 b2)

/-- Row `0x` of R77: what each opcode builds from its operand bytes. -/
def buildRow0 : List (Byte → Byte → Instr) :=
  [f1 .brk, f2 .oraIndX, f1 .kil02, f2 .nop03,
   f2 .nop04, f2 .oraZp, f2 .aslZp, f2 .nop07,
   f1 .php, f2 .oraImm, f1 .aslAcc, f2 .nop0B,
   f3 .nop0C, f3 .oraAbs, f3 .aslAbs, f3 .nop0F]

/-- Row `1x` of R77: what each opcode builds from its operand bytes. -/
def buildRow1 : List (Byte → Byte → Instr) :=
  [f2 .bpl, f2 .oraIndY, f1 .kil12, f2 .nop13,
   f2 .nop14, f2 .oraZpX, f2 .aslZpX, f2 .nop17,
   f1 .clc, f3 .oraAbsY, f1 .nop1A, f3 .nop1B,
   f3 .nop1C, f3 .oraAbsX, f3 .aslAbsX, f3 .nop1F]

/-- Row `2x` of R77: what each opcode builds from its operand bytes. -/
def buildRow2 : List (Byte → Byte → Instr) :=
  [f3 .jsr, f2 .andIndX, f1 .kil22, f2 .nop23,
   f2 .bitZp, f2 .andZp, f2 .rolZp, f2 .nop27,
   f1 .plp, f2 .andImm, f1 .rolAcc, f2 .nop2B,
   f3 .bitAbs, f3 .andAbs, f3 .rolAbs, f3 .nop2F]

/-- Row `3x` of R77: what each opcode builds from its operand bytes. -/
def buildRow3 : List (Byte → Byte → Instr) :=
  [f2 .bmi, f2 .andIndY, f1 .kil32, f2 .nop33,
   f2 .nop34, f2 .andZpX, f2 .rolZpX, f2 .nop37,
   f1 .sec, f3 .andAbsY, f1 .nop3A, f3 .nop3B,
   f3 .nop3C, f3 .andAbsX, f3 .rolAbsX, f3 .nop3F]

/-- Row `4x` of R77: what each opcode builds from its operand bytes. -/
def buildRow4 : List (Byte → Byte → Instr) :=
  [f1 .rti, f2 .eorIndX, f1 .kil42, f2 .nop43,
   f2 .nop44, f2 .eorZp, f2 .lsrZp, f2 .nop47,
   f1 .pha, f2 .eorImm, f1 .lsrAcc, f2 .nop4B,
   f3 .jmpAbs, f3 .eorAbs, f3 .lsrAbs, f3 .nop4F]

/-- Row `5x` of R77: what each opcode builds from its operand bytes. -/
def buildRow5 : List (Byte → Byte → Instr) :=
  [f2 .bvc, f2 .eorIndY, f1 .kil52, f2 .nop53,
   f2 .nop54, f2 .eorZpX, f2 .lsrZpX, f2 .nop57,
   f1 .cli, f3 .eorAbsY, f1 .nop5A, f3 .nop5B,
   f3 .nop5C, f3 .eorAbsX, f3 .lsrAbsX, f3 .nop5F]

/-- Row `6x` of R77: what each opcode builds from its operand bytes. -/
def buildRow6 : List (Byte → Byte → Instr) :=
  [f1 .rts, f2 .adcIndX, f1 .kil62, f2 .nop63,
   f2 .nop64, f2 .adcZp, f2 .rorZp, f2 .nop67,
   f1 .pla, f2 .adcImm, f1 .rorAcc, f2 .nop6B,
   f3 .jmpInd, f3 .adcAbs, f3 .rorAbs, f3 .nop6F]

/-- Row `7x` of R77: what each opcode builds from its operand bytes. -/
def buildRow7 : List (Byte → Byte → Instr) :=
  [f2 .bvs, f2 .adcIndY, f1 .kil72, f2 .nop73,
   f2 .nop74, f2 .adcZpX, f2 .rorZpX, f2 .nop77,
   f1 .sei, f3 .adcAbsY, f1 .nop7A, f3 .nop7B,
   f3 .nop7C, f3 .adcAbsX, f3 .rorAbsX, f3 .nop7F]

/-- Row `8x` of R77: what each opcode builds from its operand bytes. -/
def buildRow8 : List (Byte → Byte → Instr) :=
  [f2 .nop80, f2 .staIndX, f2 .nop82, f2 .nop83,
   f2 .styZp, f2 .staZp, f2 .stxZp, f2 .nop87,
   f1 .dey, f2 .nop89, f1 .txa, f2 .nop8B,
   f3 .styAbs, f3 .staAbs, f3 .stxAbs, f3 .nop8F]

/-- Row `9x` of R77: what each opcode builds from its operand bytes. -/
def buildRow9 : List (Byte → Byte → Instr) :=
  [f2 .bcc, f2 .staIndY, f1 .kil92, f2 .nop93,
   f2 .styZpX, f2 .staZpX, f2 .stxZpY, f2 .nop97,
   f1 .tya, f3 .staAbsY, f1 .txs, f3 .nop9B,
   f3 .nop9C, f3 .staAbsX, f3 .nop9E, f3 .nop9F]

/-- Row `Ax` of R77: what each opcode builds from its operand bytes. -/
def buildRowA : List (Byte → Byte → Instr) :=
  [f2 .ldyImm, f2 .ldaIndX, f2 .ldxImm, f2 .nopA3,
   f2 .ldyZp, f2 .ldaZp, f2 .ldxZp, f2 .nopA7,
   f1 .tay, f2 .ldaImm, f1 .tax, f2 .nopAB,
   f3 .ldyAbs, f3 .ldaAbs, f3 .ldxAbs, f3 .nopAF]

/-- Row `Bx` of R77: what each opcode builds from its operand bytes. -/
def buildRowB : List (Byte → Byte → Instr) :=
  [f2 .bcs, f2 .ldaIndY, f1 .kilB2, f2 .nopB3,
   f2 .ldyZpX, f2 .ldaZpX, f2 .ldxZpY, f2 .nopB7,
   f1 .clv, f3 .ldaAbsY, f1 .tsx, f3 .nopBB,
   f3 .ldyAbsX, f3 .ldaAbsX, f3 .ldxAbsY, f3 .nopBF]

/-- Row `Cx` of R77: what each opcode builds from its operand bytes. -/
def buildRowC : List (Byte → Byte → Instr) :=
  [f2 .cpyImm, f2 .cmpIndX, f2 .nopC2, f2 .nopC3,
   f2 .cpyZp, f2 .cmpZp, f2 .decZp, f2 .nopC7,
   f1 .iny, f2 .cmpImm, f1 .dex, f2 .nopCB,
   f3 .cpyAbs, f3 .cmpAbs, f3 .decAbs, f3 .nopCF]

/-- Row `Dx` of R77: what each opcode builds from its operand bytes. -/
def buildRowD : List (Byte → Byte → Instr) :=
  [f2 .bne, f2 .cmpIndY, f1 .kilD2, f2 .nopD3,
   f2 .nopD4, f2 .cmpZpX, f2 .decZpX, f2 .nopD7,
   f1 .cld, f3 .cmpAbsY, f1 .nopDA, f3 .nopDB,
   f3 .nopDC, f3 .cmpAbsX, f3 .decAbsX, f3 .nopDF]

/-- Row `Ex` of R77: what each opcode builds from its operand bytes. -/
def buildRowE : List (Byte → Byte → Instr) :=
  [f2 .cpxImm, f2 .sbcIndX, f2 .nopE2, f2 .nopE3,
   f2 .cpxZp, f2 .sbcZp, f2 .incZp, f2 .nopE7,
   f1 .inx, f2 .sbcImm, f1 .nop, f2 .nopEB,
   f3 .cpxAbs, f3 .sbcAbs, f3 .incAbs, f3 .nopEF]

/-- Row `Fx` of R77: what each opcode builds from its operand bytes. -/
def buildRowF : List (Byte → Byte → Instr) :=
  [f2 .beq, f2 .sbcIndY, f1 .kilF2, f2 .nopF3,
   f2 .nopF4, f2 .sbcZpX, f2 .incZpX, f2 .nopF7,
   f1 .sed, f3 .sbcAbsY, f1 .nopFA, f3 .nopFB,
   f3 .nopFC, f3 .sbcAbsX, f3 .incAbsX, f3 .nopFF]

/-- What each opcode builds from its operand bytes (R77). -/
def builders : List (List (Byte → Byte → Instr)) :=
  [buildRow0, buildRow1, buildRow2, buildRow3, buildRow4, buildRow5, buildRow6, buildRow7,
   buildRow8, buildRow9, buildRowA, buildRowB, buildRowC, buildRowD, buildRowE, buildRowF]

/-- The instruction of an opcode and its operand bytes; bytes the opcode does not consume are ignored (R76). -/
def build (opcode b1 b2 : Byte) : Instr := byNibbles builders opcode (f1 .kil02) b1 b2

/-- Why a list of bytes is no instruction: only for want of bytes, since every opcode decodes (R76, R81). -/
inductive DecodeError where
  /-- There is no opcode byte. -/
  | noBytes
  /-- The opcode's operand bytes are not all there. -/
  | truncated (opcode : Byte)
deriving DecidableEq, Repr

/-- What the decoder answers. -/
inductive Decoded where
  /-- An instruction, and the bytes after it. -/
  | ok (i : Instr) (rest : List Byte)
  /-- No instruction, by name. -/
  | rejected (e : DecodeError)
deriving DecidableEq, Repr

/-- Decode the first instruction of a list of bytes and return the rest (30_encoding.md R70, R72, R76). -/
def decode : List Byte → Decoded
  | [] => .rejected .noBytes
  | opcode :: rest =>
    match (table opcode).mode.operandBytes, rest with
    | 0, rest => .ok (build opcode 0#8 0#8) rest
    | 1, b1 :: rest => .ok (build opcode b1 0#8) rest
    | 2, b1 :: b2 :: rest => .ok (build opcode b1 b2) rest
    | _, _ => .rejected (.truncated opcode)

/-- The instruction in the low `nbits` bits of `w`, the bits above them zero, bit 0 the least significant bit of the first
byte; at most three bytes are an instruction (R71). -/
def decodeTableWord (nbits w : Nat) : Option Instr :=
  let v := w % 2 ^ nbits
  match decode [BitVec.ofNat 8 v, BitVec.ofNat 8 (v / 0x100), BitVec.ofNat 8 (v / 0x10000)] with
  | .ok i _ => some i
  | .rejected _ => none

/-! ### The encoder -/

/-- The bytes of an instruction, opcode first, a word operand low byte first (30_encoding.md R71, R78, R79). -/
def encode : Instr → List Byte
  | .ldaIndX op8 => [0xA1#8, op8]
  | .ldaZp op8 => [0xA5#8, op8]
  | .ldaImm op8 => [0xA9#8, op8]
  | .ldaAbs op16 => [0xAD#8, loByte op16, hiByte op16]
  | .ldaIndY op8 => [0xB1#8, op8]
  | .ldaZpX op8 => [0xB5#8, op8]
  | .ldaAbsY op16 => [0xB9#8, loByte op16, hiByte op16]
  | .ldaAbsX op16 => [0xBD#8, loByte op16, hiByte op16]
  | .ldxImm op8 => [0xA2#8, op8]
  | .ldxZp op8 => [0xA6#8, op8]
  | .ldxAbs op16 => [0xAE#8, loByte op16, hiByte op16]
  | .ldxZpY op8 => [0xB6#8, op8]
  | .ldxAbsY op16 => [0xBE#8, loByte op16, hiByte op16]
  | .ldyImm op8 => [0xA0#8, op8]
  | .ldyZp op8 => [0xA4#8, op8]
  | .ldyAbs op16 => [0xAC#8, loByte op16, hiByte op16]
  | .ldyZpX op8 => [0xB4#8, op8]
  | .ldyAbsX op16 => [0xBC#8, loByte op16, hiByte op16]
  | .staIndX op8 => [0x81#8, op8]
  | .staZp op8 => [0x85#8, op8]
  | .staAbs op16 => [0x8D#8, loByte op16, hiByte op16]
  | .staIndY op8 => [0x91#8, op8]
  | .staZpX op8 => [0x95#8, op8]
  | .staAbsY op16 => [0x99#8, loByte op16, hiByte op16]
  | .staAbsX op16 => [0x9D#8, loByte op16, hiByte op16]
  | .stxZp op8 => [0x86#8, op8]
  | .stxAbs op16 => [0x8E#8, loByte op16, hiByte op16]
  | .stxZpY op8 => [0x96#8, op8]
  | .styZp op8 => [0x84#8, op8]
  | .styAbs op16 => [0x8C#8, loByte op16, hiByte op16]
  | .styZpX op8 => [0x94#8, op8]
  | .tax => [0xAA#8]
  | .tay => [0xA8#8]
  | .txa => [0x8A#8]
  | .tya => [0x98#8]
  | .tsx => [0xBA#8]
  | .txs => [0x9A#8]
  | .adcIndX op8 => [0x61#8, op8]
  | .adcZp op8 => [0x65#8, op8]
  | .adcImm op8 => [0x69#8, op8]
  | .adcAbs op16 => [0x6D#8, loByte op16, hiByte op16]
  | .adcIndY op8 => [0x71#8, op8]
  | .adcZpX op8 => [0x75#8, op8]
  | .adcAbsY op16 => [0x79#8, loByte op16, hiByte op16]
  | .adcAbsX op16 => [0x7D#8, loByte op16, hiByte op16]
  | .sbcIndX op8 => [0xE1#8, op8]
  | .sbcZp op8 => [0xE5#8, op8]
  | .sbcImm op8 => [0xE9#8, op8]
  | .sbcAbs op16 => [0xED#8, loByte op16, hiByte op16]
  | .sbcIndY op8 => [0xF1#8, op8]
  | .sbcZpX op8 => [0xF5#8, op8]
  | .sbcAbsY op16 => [0xF9#8, loByte op16, hiByte op16]
  | .sbcAbsX op16 => [0xFD#8, loByte op16, hiByte op16]
  | .cmpIndX op8 => [0xC1#8, op8]
  | .cmpZp op8 => [0xC5#8, op8]
  | .cmpImm op8 => [0xC9#8, op8]
  | .cmpAbs op16 => [0xCD#8, loByte op16, hiByte op16]
  | .cmpIndY op8 => [0xD1#8, op8]
  | .cmpZpX op8 => [0xD5#8, op8]
  | .cmpAbsY op16 => [0xD9#8, loByte op16, hiByte op16]
  | .cmpAbsX op16 => [0xDD#8, loByte op16, hiByte op16]
  | .cpxImm op8 => [0xE0#8, op8]
  | .cpxZp op8 => [0xE4#8, op8]
  | .cpxAbs op16 => [0xEC#8, loByte op16, hiByte op16]
  | .cpyImm op8 => [0xC0#8, op8]
  | .cpyZp op8 => [0xC4#8, op8]
  | .cpyAbs op16 => [0xCC#8, loByte op16, hiByte op16]
  | .incZp op8 => [0xE6#8, op8]
  | .incAbs op16 => [0xEE#8, loByte op16, hiByte op16]
  | .incZpX op8 => [0xF6#8, op8]
  | .incAbsX op16 => [0xFE#8, loByte op16, hiByte op16]
  | .decZp op8 => [0xC6#8, op8]
  | .decAbs op16 => [0xCE#8, loByte op16, hiByte op16]
  | .decZpX op8 => [0xD6#8, op8]
  | .decAbsX op16 => [0xDE#8, loByte op16, hiByte op16]
  | .inx => [0xE8#8]
  | .iny => [0xC8#8]
  | .dex => [0xCA#8]
  | .dey => [0x88#8]
  | .andIndX op8 => [0x21#8, op8]
  | .andZp op8 => [0x25#8, op8]
  | .andImm op8 => [0x29#8, op8]
  | .andAbs op16 => [0x2D#8, loByte op16, hiByte op16]
  | .andIndY op8 => [0x31#8, op8]
  | .andZpX op8 => [0x35#8, op8]
  | .andAbsY op16 => [0x39#8, loByte op16, hiByte op16]
  | .andAbsX op16 => [0x3D#8, loByte op16, hiByte op16]
  | .oraIndX op8 => [0x01#8, op8]
  | .oraZp op8 => [0x05#8, op8]
  | .oraImm op8 => [0x09#8, op8]
  | .oraAbs op16 => [0x0D#8, loByte op16, hiByte op16]
  | .oraIndY op8 => [0x11#8, op8]
  | .oraZpX op8 => [0x15#8, op8]
  | .oraAbsY op16 => [0x19#8, loByte op16, hiByte op16]
  | .oraAbsX op16 => [0x1D#8, loByte op16, hiByte op16]
  | .eorIndX op8 => [0x41#8, op8]
  | .eorZp op8 => [0x45#8, op8]
  | .eorImm op8 => [0x49#8, op8]
  | .eorAbs op16 => [0x4D#8, loByte op16, hiByte op16]
  | .eorIndY op8 => [0x51#8, op8]
  | .eorZpX op8 => [0x55#8, op8]
  | .eorAbsY op16 => [0x59#8, loByte op16, hiByte op16]
  | .eorAbsX op16 => [0x5D#8, loByte op16, hiByte op16]
  | .bitZp op8 => [0x24#8, op8]
  | .bitAbs op16 => [0x2C#8, loByte op16, hiByte op16]
  | .aslZp op8 => [0x06#8, op8]
  | .aslAcc => [0x0A#8]
  | .aslAbs op16 => [0x0E#8, loByte op16, hiByte op16]
  | .aslZpX op8 => [0x16#8, op8]
  | .aslAbsX op16 => [0x1E#8, loByte op16, hiByte op16]
  | .lsrZp op8 => [0x46#8, op8]
  | .lsrAcc => [0x4A#8]
  | .lsrAbs op16 => [0x4E#8, loByte op16, hiByte op16]
  | .lsrZpX op8 => [0x56#8, op8]
  | .lsrAbsX op16 => [0x5E#8, loByte op16, hiByte op16]
  | .rolZp op8 => [0x26#8, op8]
  | .rolAcc => [0x2A#8]
  | .rolAbs op16 => [0x2E#8, loByte op16, hiByte op16]
  | .rolZpX op8 => [0x36#8, op8]
  | .rolAbsX op16 => [0x3E#8, loByte op16, hiByte op16]
  | .rorZp op8 => [0x66#8, op8]
  | .rorAcc => [0x6A#8]
  | .rorAbs op16 => [0x6E#8, loByte op16, hiByte op16]
  | .rorZpX op8 => [0x76#8, op8]
  | .rorAbsX op16 => [0x7E#8, loByte op16, hiByte op16]
  | .bpl op8 => [0x10#8, op8]
  | .bmi op8 => [0x30#8, op8]
  | .bvc op8 => [0x50#8, op8]
  | .bvs op8 => [0x70#8, op8]
  | .bcc op8 => [0x90#8, op8]
  | .bcs op8 => [0xB0#8, op8]
  | .bne op8 => [0xD0#8, op8]
  | .beq op8 => [0xF0#8, op8]
  | .jmpAbs op16 => [0x4C#8, loByte op16, hiByte op16]
  | .jmpInd op16 => [0x6C#8, loByte op16, hiByte op16]
  | .jsr op16 => [0x20#8, loByte op16, hiByte op16]
  | .rts => [0x60#8]
  | .brk => [0x00#8]
  | .rti => [0x40#8]
  | .pha => [0x48#8]
  | .php => [0x08#8]
  | .pla => [0x68#8]
  | .plp => [0x28#8]
  | .clc => [0x18#8]
  | .cld => [0xD8#8]
  | .cli => [0x58#8]
  | .clv => [0xB8#8]
  | .sec => [0x38#8]
  | .sed => [0xF8#8]
  | .sei => [0x78#8]
  | .nop => [0xEA#8]
  | .nop03 op8 => [0x03#8, op8]
  | .nop04 op8 => [0x04#8, op8]
  | .nop07 op8 => [0x07#8, op8]
  | .nop0B op8 => [0x0B#8, op8]
  | .nop0C op16 => [0x0C#8, loByte op16, hiByte op16]
  | .nop0F op16 => [0x0F#8, loByte op16, hiByte op16]
  | .nop13 op8 => [0x13#8, op8]
  | .nop14 op8 => [0x14#8, op8]
  | .nop17 op8 => [0x17#8, op8]
  | .nop1A => [0x1A#8]
  | .nop1B op16 => [0x1B#8, loByte op16, hiByte op16]
  | .nop1C op16 => [0x1C#8, loByte op16, hiByte op16]
  | .nop1F op16 => [0x1F#8, loByte op16, hiByte op16]
  | .nop23 op8 => [0x23#8, op8]
  | .nop27 op8 => [0x27#8, op8]
  | .nop2B op8 => [0x2B#8, op8]
  | .nop2F op16 => [0x2F#8, loByte op16, hiByte op16]
  | .nop33 op8 => [0x33#8, op8]
  | .nop34 op8 => [0x34#8, op8]
  | .nop37 op8 => [0x37#8, op8]
  | .nop3A => [0x3A#8]
  | .nop3B op16 => [0x3B#8, loByte op16, hiByte op16]
  | .nop3C op16 => [0x3C#8, loByte op16, hiByte op16]
  | .nop3F op16 => [0x3F#8, loByte op16, hiByte op16]
  | .nop43 op8 => [0x43#8, op8]
  | .nop44 op8 => [0x44#8, op8]
  | .nop47 op8 => [0x47#8, op8]
  | .nop4B op8 => [0x4B#8, op8]
  | .nop4F op16 => [0x4F#8, loByte op16, hiByte op16]
  | .nop53 op8 => [0x53#8, op8]
  | .nop54 op8 => [0x54#8, op8]
  | .nop57 op8 => [0x57#8, op8]
  | .nop5A => [0x5A#8]
  | .nop5B op16 => [0x5B#8, loByte op16, hiByte op16]
  | .nop5C op16 => [0x5C#8, loByte op16, hiByte op16]
  | .nop5F op16 => [0x5F#8, loByte op16, hiByte op16]
  | .nop63 op8 => [0x63#8, op8]
  | .nop64 op8 => [0x64#8, op8]
  | .nop67 op8 => [0x67#8, op8]
  | .nop6B op8 => [0x6B#8, op8]
  | .nop6F op16 => [0x6F#8, loByte op16, hiByte op16]
  | .nop73 op8 => [0x73#8, op8]
  | .nop74 op8 => [0x74#8, op8]
  | .nop77 op8 => [0x77#8, op8]
  | .nop7A => [0x7A#8]
  | .nop7B op16 => [0x7B#8, loByte op16, hiByte op16]
  | .nop7C op16 => [0x7C#8, loByte op16, hiByte op16]
  | .nop7F op16 => [0x7F#8, loByte op16, hiByte op16]
  | .nop80 op8 => [0x80#8, op8]
  | .nop82 op8 => [0x82#8, op8]
  | .nop83 op8 => [0x83#8, op8]
  | .nop87 op8 => [0x87#8, op8]
  | .nop89 op8 => [0x89#8, op8]
  | .nop8B op8 => [0x8B#8, op8]
  | .nop8F op16 => [0x8F#8, loByte op16, hiByte op16]
  | .nop93 op8 => [0x93#8, op8]
  | .nop97 op8 => [0x97#8, op8]
  | .nop9B op16 => [0x9B#8, loByte op16, hiByte op16]
  | .nop9C op16 => [0x9C#8, loByte op16, hiByte op16]
  | .nop9E op16 => [0x9E#8, loByte op16, hiByte op16]
  | .nop9F op16 => [0x9F#8, loByte op16, hiByte op16]
  | .nopA3 op8 => [0xA3#8, op8]
  | .nopA7 op8 => [0xA7#8, op8]
  | .nopAB op8 => [0xAB#8, op8]
  | .nopAF op16 => [0xAF#8, loByte op16, hiByte op16]
  | .nopB3 op8 => [0xB3#8, op8]
  | .nopB7 op8 => [0xB7#8, op8]
  | .nopBB op16 => [0xBB#8, loByte op16, hiByte op16]
  | .nopBF op16 => [0xBF#8, loByte op16, hiByte op16]
  | .nopC2 op8 => [0xC2#8, op8]
  | .nopC3 op8 => [0xC3#8, op8]
  | .nopC7 op8 => [0xC7#8, op8]
  | .nopCB op8 => [0xCB#8, op8]
  | .nopCF op16 => [0xCF#8, loByte op16, hiByte op16]
  | .nopD3 op8 => [0xD3#8, op8]
  | .nopD4 op8 => [0xD4#8, op8]
  | .nopD7 op8 => [0xD7#8, op8]
  | .nopDA => [0xDA#8]
  | .nopDB op16 => [0xDB#8, loByte op16, hiByte op16]
  | .nopDC op16 => [0xDC#8, loByte op16, hiByte op16]
  | .nopDF op16 => [0xDF#8, loByte op16, hiByte op16]
  | .nopE2 op8 => [0xE2#8, op8]
  | .nopE3 op8 => [0xE3#8, op8]
  | .nopE7 op8 => [0xE7#8, op8]
  | .nopEB op8 => [0xEB#8, op8]
  | .nopEF op16 => [0xEF#8, loByte op16, hiByte op16]
  | .nopF3 op8 => [0xF3#8, op8]
  | .nopF4 op8 => [0xF4#8, op8]
  | .nopF7 op8 => [0xF7#8, op8]
  | .nopFA => [0xFA#8]
  | .nopFB op16 => [0xFB#8, loByte op16, hiByte op16]
  | .nopFC op16 => [0xFC#8, loByte op16, hiByte op16]
  | .nopFF op16 => [0xFF#8, loByte op16, hiByte op16]
  | .kil02 => [0x02#8]
  | .kil12 => [0x12#8]
  | .kil22 => [0x22#8]
  | .kil32 => [0x32#8]
  | .kil42 => [0x42#8]
  | .kil52 => [0x52#8]
  | .kil62 => [0x62#8]
  | .kil72 => [0x72#8]
  | .kil92 => [0x92#8]
  | .kilB2 => [0xB2#8]
  | .kilD2 => [0xD2#8]
  | .kilF2 => [0xF2#8]

/-- The opcode byte of an instruction. -/
def Instr.opcode (i : Instr) : Byte := (encode i).headD 0#8

/-- The operand of an instruction: its operand byte (zero-extended) or word; 0 for an instruction without one. -/
def Instr.operand (i : Instr) : Addr :=
  match encode i with
  | [_, b1] => zext16 b1
  | [_, b1, b2] => wordOf b1 b2
  | _ => 0#16

/-- The table entry of an instruction (R80). -/
def Instr.entry (i : Instr) : Entry := table i.opcode

end Sys2Proof
end

