-- ==== Sys2Proof/Machine/Operands.lean ====
section
/-! DEFINITION. The address-resolution unit with its thirteen modes (40_engine.md R92 to R105), access to an instruction's operand
(R91, 43_logic_shift.md R140), and the frame every instruction runs in (R86, R90). -/

namespace Sys2Proof.Machine

/-- What the resolver answers (40_engine.md R92). -/
inductive EA where
  /-- The implied sentinel, "not a valid address": the accumulator, for the shifts (R93). -/
  | implied
  /-- An immediate operand at address `a` = PC0 + 1 (R95), with the byte `v` that the fetch has read there (R89; log 6). -/
  | imm (a : Addr) (v : Byte)
  /-- An address. -/
  | mem (a : Addr)
deriving DecidableEq, Repr

/-- `(EA, cross)` of `Resolve(mode, PC0)`, and the state its pointer reads leave. -/
structure Resolved where
  ea : EA
  cross : Bool
  state : State
deriving DecidableEq, Repr

/-- `lo(base) + index > 0xFF` (40_engine.md R100, R105). -/
def crosses (base : Addr) (index : Byte) : Bool := decide (0xFF < (loByte base).toNat + index.toNat)

/-- The word behind a zero-page pointer, with ZP_PTR_WRAP saying where its high byte comes from (40_engine.md R103, R104). -/
def State.readPointer (s : State) (z : Byte) : Addr × State :=
  let (l, s1) := s.busRead (zext16 z)
  let (h, s2) := s1.busRead (if s.params.zpPtrWrap then zext16 (z + 1#8) else zext16 z + 1#16)
  (wordOf l h, s2)

/-- The word JMP (ind) jumps to, with JMP_IND_PAGE_BUG saying where its high byte comes from (40_engine.md R102). -/
def State.readIndirect (s : State) (w : Addr) : Addr × State :=
  let (l, s1) := s.busRead w
  let (h, s2) := s1.busRead (if s.params.jmpIndPageBug then wordOf (loByte w + 1#8) (hiByte w) else w + 1#16)
  (wordOf l h, s2)

/-- `Resolve(mode, PC0)` (40_engine.md R92 to R104). `s.pc` is PC0 and `operand` the operand byte or word of the
instruction (30_encoding.md R73, R74). -/
def State.resolve (s : State) (mode : Mode) (operand : Addr) : Resolved :=
  let op8 := loByte operand
  match mode with
  | .imp | .acc => ⟨.implied, false, s⟩
  | .imm => ⟨.imm (s.pc + 1#16) op8, false, s⟩
  | .rel => ⟨.mem (s.pc + 2#16 + sext16 op8), false, s⟩
  | .zp => ⟨.mem (zext16 op8), false, s⟩
  | .zpX => ⟨.mem (zext16 (op8 + s.x)), false, s⟩
  | .zpY => ⟨.mem (zext16 (op8 + s.y)), false, s⟩
  | .abs => ⟨.mem operand, false, s⟩
  | .absX => ⟨.mem (operand + zext16 s.x), crosses operand s.x, s⟩
  | .absY => ⟨.mem (operand + zext16 s.y), crosses operand s.y, s⟩
  | .ind =>
    let (target, s1) := s.readIndirect operand
    ⟨.mem target, false, s1⟩
  | .indX =>
    let (ptr, s1) := s.readPointer (op8 + s.x)
    ⟨.mem ptr, false, s1⟩
  | .indY =>
    let (ptr, s1) := s.readPointer op8
    ⟨.mem (ptr + zext16 s.y), crosses ptr s.y, s1⟩

/-- Read the operand: A for the sentinel (43_logic_shift.md R140), the byte the fetch read for an immediate, else
`MemRead(EA, 1)` (40_engine.md R91). -/
def State.readOperand (s : State) (ea : EA) : Byte × State :=
  match ea with
  | .implied => (s.a, s)
  | .imm _ v => (v, s)
  | .mem a => s.busRead a

/-- Write the operand: A for the sentinel (43_logic_shift.md R140), else `MemWrite(EA, 1, v)` (40_engine.md R91). -/
def State.writeOperand (s : State) (ea : EA) (v : Byte) : State :=
  match ea with
  | .implied => s.setA v
  | .imm a _ => s.busWrite a v
  | .mem a => s.busWrite a v

/-- Transfer control to EA (`PC <- EA`); the sentinel is no address, and no control transfer resolves to it. -/
def State.jumpTo (s : State) (ea : EA) : State :=
  match ea with
  | .implied => s
  | .imm a _ => s.setPc a
  | .mem a => s.setPc a

/-- One instruction after its fetch (40_engine.md R86): resolve, advance PC by the mode's length (R90), execute, add the
base cycles and the page-cross cycle (70_reset_and_hazards.md R205). -/
def instruction (mode : Mode) (base : Nat) (pen : Bool) (operand : Addr) (body : EA → State → State) (s : State) :
    Result :=
  let r := s.resolve mode operand
  let s1 := body r.ea (r.state.setPc (s.pc + BitVec.ofNat 16 mode.length))
  .next (s1.addTicks (base + if pen && r.cross then 1 else 0))

end Sys2Proof.Machine
end

