-- ==== Sys2Proof/Machine/Arith.lean ====
section
/-! DEFINITION. Arithmetic, compare, increment and decrement (42_arithmetic.md): what each operation does once EA is resolved and PC has advanced, and
below it the meaning of each opcode, with the base cycles of 70_reset_and_hazards.md R208 and the page-cross opcodes of R206. -/

namespace Sys2Proof.Machine

/-- ADC: add with carry (R124). -/
def State.opAdc (s : State) (ea : EA) : State :=
  let (m, s1) := s.readOperand ea
  s1.addWithCarry m

/-- `$61` ADC INDX (R124). -/
def execAdcIndX (op8 : Byte) (s : State) : Result :=
  instruction .indX 6 false (zext16 op8) (fun ea s => s.opAdc ea) s

/-- `$65` ADC ZP (R124). -/
def execAdcZp (op8 : Byte) (s : State) : Result :=
  instruction .zp 3 false (zext16 op8) (fun ea s => s.opAdc ea) s

/-- `$69` ADC IMM (R124). -/
def execAdcImm (op8 : Byte) (s : State) : Result :=
  instruction .imm 2 false (zext16 op8) (fun ea s => s.opAdc ea) s

/-- `$6D` ADC ABS (R124). -/
def execAdcAbs (op16 : Addr) (s : State) : Result :=
  instruction .abs 4 false op16 (fun ea s => s.opAdc ea) s

/-- `$71` ADC INDY (R124). -/
def execAdcIndY (op8 : Byte) (s : State) : Result :=
  instruction .indY 5 true (zext16 op8) (fun ea s => s.opAdc ea) s

/-- `$75` ADC ZPX (R124). -/
def execAdcZpX (op8 : Byte) (s : State) : Result :=
  instruction .zpX 4 false (zext16 op8) (fun ea s => s.opAdc ea) s

/-- `$79` ADC ABSY (R124). -/
def execAdcAbsY (op16 : Addr) (s : State) : Result :=
  instruction .absY 4 true op16 (fun ea s => s.opAdc ea) s

/-- `$7D` ADC ABSX (R124). -/
def execAdcAbsX (op16 : Addr) (s : State) : Result :=
  instruction .absX 4 true op16 (fun ea s => s.opAdc ea) s

/-- SBC: subtract with borrow: the adder on the ones' complement (90_conflicts.md C4) (R125). -/
def State.opSbc (s : State) (ea : EA) : State :=
  let (m, s1) := s.readOperand ea
  s1.addWithCarry (m ^^^ 0xFF#8)

/-- `$E1` SBC INDX (R125). -/
def execSbcIndX (op8 : Byte) (s : State) : Result :=
  instruction .indX 6 false (zext16 op8) (fun ea s => s.opSbc ea) s

/-- `$E5` SBC ZP (R125). -/
def execSbcZp (op8 : Byte) (s : State) : Result :=
  instruction .zp 3 false (zext16 op8) (fun ea s => s.opSbc ea) s

/-- `$E9` SBC IMM (R125). -/
def execSbcImm (op8 : Byte) (s : State) : Result :=
  instruction .imm 2 false (zext16 op8) (fun ea s => s.opSbc ea) s

/-- `$ED` SBC ABS (R125). -/
def execSbcAbs (op16 : Addr) (s : State) : Result :=
  instruction .abs 4 false op16 (fun ea s => s.opSbc ea) s

/-- `$F1` SBC INDY (R125). -/
def execSbcIndY (op8 : Byte) (s : State) : Result :=
  instruction .indY 5 true (zext16 op8) (fun ea s => s.opSbc ea) s

/-- `$F5` SBC ZPX (R125). -/
def execSbcZpX (op8 : Byte) (s : State) : Result :=
  instruction .zpX 4 false (zext16 op8) (fun ea s => s.opSbc ea) s

/-- `$F9` SBC ABSY (R125). -/
def execSbcAbsY (op16 : Addr) (s : State) : Result :=
  instruction .absY 4 true op16 (fun ea s => s.opSbc ea) s

/-- `$FD` SBC ABSX (R125). -/
def execSbcAbsX (op16 : Addr) (s : State) : Result :=
  instruction .absX 4 true op16 (fun ea s => s.opSbc ea) s

/-- CMP: compare with A (R127). -/
def State.opCmp (s : State) (ea : EA) : State :=
  let (m, s1) := s.readOperand ea
  s1.compare s1.a m

/-- `$C1` CMP INDX (R127). -/
def execCmpIndX (op8 : Byte) (s : State) : Result :=
  instruction .indX 6 false (zext16 op8) (fun ea s => s.opCmp ea) s

/-- `$C5` CMP ZP (R127). -/
def execCmpZp (op8 : Byte) (s : State) : Result :=
  instruction .zp 3 false (zext16 op8) (fun ea s => s.opCmp ea) s

/-- `$C9` CMP IMM (R127). -/
def execCmpImm (op8 : Byte) (s : State) : Result :=
  instruction .imm 2 false (zext16 op8) (fun ea s => s.opCmp ea) s

/-- `$CD` CMP ABS (R127). -/
def execCmpAbs (op16 : Addr) (s : State) : Result :=
  instruction .abs 4 false op16 (fun ea s => s.opCmp ea) s

/-- `$D1` CMP INDY (R127). -/
def execCmpIndY (op8 : Byte) (s : State) : Result :=
  instruction .indY 5 true (zext16 op8) (fun ea s => s.opCmp ea) s

/-- `$D5` CMP ZPX (R127). -/
def execCmpZpX (op8 : Byte) (s : State) : Result :=
  instruction .zpX 4 false (zext16 op8) (fun ea s => s.opCmp ea) s

/-- `$D9` CMP ABSY (R127). -/
def execCmpAbsY (op16 : Addr) (s : State) : Result :=
  instruction .absY 4 true op16 (fun ea s => s.opCmp ea) s

/-- `$DD` CMP ABSX (R127). -/
def execCmpAbsX (op16 : Addr) (s : State) : Result :=
  instruction .absX 4 true op16 (fun ea s => s.opCmp ea) s

/-- CPX: compare with X (R128). -/
def State.opCpx (s : State) (ea : EA) : State :=
  let (m, s1) := s.readOperand ea
  s1.compare s1.x m

/-- `$E0` CPX IMM (R128). -/
def execCpxImm (op8 : Byte) (s : State) : Result :=
  instruction .imm 2 false (zext16 op8) (fun ea s => s.opCpx ea) s

/-- `$E4` CPX ZP (R128). -/
def execCpxZp (op8 : Byte) (s : State) : Result :=
  instruction .zp 3 false (zext16 op8) (fun ea s => s.opCpx ea) s

/-- `$EC` CPX ABS (R128). -/
def execCpxAbs (op16 : Addr) (s : State) : Result :=
  instruction .abs 4 false op16 (fun ea s => s.opCpx ea) s

/-- CPY: compare with Y (R129). -/
def State.opCpy (s : State) (ea : EA) : State :=
  let (m, s1) := s.readOperand ea
  s1.compare s1.y m

/-- `$C0` CPY IMM (R129). -/
def execCpyImm (op8 : Byte) (s : State) : Result :=
  instruction .imm 2 false (zext16 op8) (fun ea s => s.opCpy ea) s

/-- `$C4` CPY ZP (R129). -/
def execCpyZp (op8 : Byte) (s : State) : Result :=
  instruction .zp 3 false (zext16 op8) (fun ea s => s.opCpy ea) s

/-- `$CC` CPY ABS (R129). -/
def execCpyAbs (op16 : Addr) (s : State) : Result :=
  instruction .abs 4 false op16 (fun ea s => s.opCpy ea) s

/-- INC: increment memory: one read, one write (R130). -/
def State.opInc (s : State) (ea : EA) : State :=
  let (v, s1) := s.readOperand ea
  (s1.writeOperand ea (v + 1#8)).setZN (v + 1#8)

/-- `$E6` INC ZP (R130). -/
def execIncZp (op8 : Byte) (s : State) : Result :=
  instruction .zp 5 false (zext16 op8) (fun ea s => s.opInc ea) s

/-- `$EE` INC ABS (R130). -/
def execIncAbs (op16 : Addr) (s : State) : Result :=
  instruction .abs 6 false op16 (fun ea s => s.opInc ea) s

/-- `$F6` INC ZPX (R130). -/
def execIncZpX (op8 : Byte) (s : State) : Result :=
  instruction .zpX 6 false (zext16 op8) (fun ea s => s.opInc ea) s

/-- `$FE` INC ABSX (R130). -/
def execIncAbsX (op16 : Addr) (s : State) : Result :=
  instruction .absX 7 false op16 (fun ea s => s.opInc ea) s

/-- DEC: decrement memory: one read, one write (R131). -/
def State.opDec (s : State) (ea : EA) : State :=
  let (v, s1) := s.readOperand ea
  (s1.writeOperand ea (v - 1#8)).setZN (v - 1#8)

/-- `$C6` DEC ZP (R131). -/
def execDecZp (op8 : Byte) (s : State) : Result :=
  instruction .zp 5 false (zext16 op8) (fun ea s => s.opDec ea) s

/-- `$CE` DEC ABS (R131). -/
def execDecAbs (op16 : Addr) (s : State) : Result :=
  instruction .abs 6 false op16 (fun ea s => s.opDec ea) s

/-- `$D6` DEC ZPX (R131). -/
def execDecZpX (op8 : Byte) (s : State) : Result :=
  instruction .zpX 6 false (zext16 op8) (fun ea s => s.opDec ea) s

/-- `$DE` DEC ABSX (R131). -/
def execDecAbsX (op16 : Addr) (s : State) : Result :=
  instruction .absX 7 false op16 (fun ea s => s.opDec ea) s

/-- INX: increment X (R132). -/
def State.opInx (s : State) (_ : EA) : State :=
  (s.setX (s.x + 1#8)).setZN (s.x + 1#8)

/-- `$E8` INX IMP (R132). -/
def execInx (s : State) : Result :=
  instruction .imp 2 false 0#16 (fun ea s => s.opInx ea) s

/-- INY: increment Y (R133). -/
def State.opIny (s : State) (_ : EA) : State :=
  (s.setY (s.y + 1#8)).setZN (s.y + 1#8)

/-- `$C8` INY IMP (R133). -/
def execIny (s : State) : Result :=
  instruction .imp 2 false 0#16 (fun ea s => s.opIny ea) s

/-- DEX: decrement X (R134). -/
def State.opDex (s : State) (_ : EA) : State :=
  (s.setX (s.x - 1#8)).setZN (s.x - 1#8)

/-- `$CA` DEX IMP (R134). -/
def execDex (s : State) : Result :=
  instruction .imp 2 false 0#16 (fun ea s => s.opDex ea) s

/-- DEY: decrement Y (R135). -/
def State.opDey (s : State) (_ : EA) : State :=
  (s.setY (s.y - 1#8)).setZN (s.y - 1#8)

/-- `$88` DEY IMP (R135). -/
def execDey (s : State) : Result :=
  instruction .imp 2 false 0#16 (fun ea s => s.opDey ea) s

end Sys2Proof.Machine
end

