-- ==== Sys2Proof/Machine/Control.lean ====
section
/-! DEFINITION. Branches, jumps, calls, returns and BRK (44_control_flow.md): what each operation does once EA is resolved and PC has advanced, and
below it the meaning of each opcode, with the base cycles of 70_reset_and_hazards.md R208 and the page-cross opcodes of R206. -/

namespace Sys2Proof.Machine

/-- `Branch(cond)`: a taken branch costs a cycle, and one more to another page than the next instruction's (R145,
70_reset_and_hazards.md R207). `s.pc` is PC0 + 2 here. -/
def State.branch (s : State) (cond : Bool) (ea : EA) : State :=
  if cond then
    let t := s.jumpTo ea
    t.addTicks (1 + if hiByte s.pc ≠ hiByte t.pc then 1 else 0)
  else s

/-- BPL: branch if N = 0 (R146). -/
def State.opBpl (s : State) (ea : EA) : State :=
  s.branch (s.flag .n == false) ea

/-- `$10` BPL REL (R146). -/
def execBpl (op8 : Byte) (s : State) : Result :=
  instruction .rel 2 false (zext16 op8) (fun ea s => s.opBpl ea) s

/-- BMI: branch if N = 1 (R147). -/
def State.opBmi (s : State) (ea : EA) : State :=
  s.branch (s.flag .n == true) ea

/-- `$30` BMI REL (R147). -/
def execBmi (op8 : Byte) (s : State) : Result :=
  instruction .rel 2 false (zext16 op8) (fun ea s => s.opBmi ea) s

/-- BVC: branch if V = 0 (R148). -/
def State.opBvc (s : State) (ea : EA) : State :=
  s.branch (s.flag .v == false) ea

/-- `$50` BVC REL (R148). -/
def execBvc (op8 : Byte) (s : State) : Result :=
  instruction .rel 2 false (zext16 op8) (fun ea s => s.opBvc ea) s

/-- BVS: branch if V = 1 (R149). -/
def State.opBvs (s : State) (ea : EA) : State :=
  s.branch (s.flag .v == true) ea

/-- `$70` BVS REL (R149). -/
def execBvs (op8 : Byte) (s : State) : Result :=
  instruction .rel 2 false (zext16 op8) (fun ea s => s.opBvs ea) s

/-- BCC: branch if C = 0 (R150). -/
def State.opBcc (s : State) (ea : EA) : State :=
  s.branch (s.flag .c == false) ea

/-- `$90` BCC REL (R150). -/
def execBcc (op8 : Byte) (s : State) : Result :=
  instruction .rel 2 false (zext16 op8) (fun ea s => s.opBcc ea) s

/-- BCS: branch if C = 1 (R151). -/
def State.opBcs (s : State) (ea : EA) : State :=
  s.branch (s.flag .c == true) ea

/-- `$B0` BCS REL (R151). -/
def execBcs (op8 : Byte) (s : State) : Result :=
  instruction .rel 2 false (zext16 op8) (fun ea s => s.opBcs ea) s

/-- BNE: branch if Z = 0 (R152). -/
def State.opBne (s : State) (ea : EA) : State :=
  s.branch (s.flag .z == false) ea

/-- `$D0` BNE REL (R152). -/
def execBne (op8 : Byte) (s : State) : Result :=
  instruction .rel 2 false (zext16 op8) (fun ea s => s.opBne ea) s

/-- BEQ: branch if Z = 1 (R153). -/
def State.opBeq (s : State) (ea : EA) : State :=
  s.branch (s.flag .z == true) ea

/-- `$F0` BEQ REL (R153). -/
def execBeq (op8 : Byte) (s : State) : Result :=
  instruction .rel 2 false (zext16 op8) (fun ea s => s.opBeq ea) s

/-- JMP: jump (R154). -/
def State.opJmp (s : State) (ea : EA) : State :=
  s.jumpTo ea

/-- `$4C` JMP ABS (R154). -/
def execJmpAbs (op16 : Addr) (s : State) : Result :=
  instruction .abs 3 false op16 (fun ea s => s.opJmp ea) s

/-- `$6C` JMP IND (R154). -/
def execJmpInd (op16 : Addr) (s : State) : Result :=
  instruction .ind 5 false op16 (fun ea s => s.opJmp ea) s

/-- JSR: jump to subroutine. `s.pc` is PC0 + 3 here, so `s.pc - 1` is the PC0 + 2 that is pushed (90_conflicts.md C8) (R155). -/
def State.opJsr (s : State) (ea : EA) : State :=
  (s.pushWord (s.pc - 1#16)).jumpTo ea

/-- `$20` JSR ABS (R155). -/
def execJsr (op16 : Addr) (s : State) : Result :=
  instruction .abs 6 false op16 (fun ea s => s.opJsr ea) s

/-- RTS: return from subroutine (R156). -/
def State.opRts (s : State) (_ : EA) : State :=
  let (w, s1) := s.pullWord
  s1.setPc (w + 1#16)

/-- `$60` RTS IMP (R156). -/
def execRts (s : State) : Result :=
  instruction .imp 6 false 0#16 (fun ea s => s.opRts ea) s

/-- BRK: software interrupt. `s.pc` is PC0 + 1 here; the pushed P has bit 4 set (R157). -/
def State.opBrk (s : State) (_ : EA) : State :=
  s.enterVia s.pc (withFlag s.p .b true) 0xFFFE#16

/-- `$00` BRK IMP (R157). -/
def execBrk (s : State) : Result :=
  instruction .imp 7 false 0#16 (fun ea s => s.opBrk ea) s

/-- RTI: return from interrupt (R158). -/
def State.opRti (s : State) (_ : EA) : State :=
  s.returnFromInterrupt

/-- `$40` RTI IMP (R158). -/
def execRti (s : State) : Result :=
  instruction .imp 6 false 0#16 (fun ea s => s.opRti ea) s

end Sys2Proof.Machine
end

