-- ==== Sys2Proof/Machine/Logic.lean ====
section
/-! DEFINITION. Logical operations, BIT, shifts and rotates (43_logic_shift.md): what each operation does once EA is resolved and PC has advanced, and
below it the meaning of each opcode, with the base cycles of 70_reset_and_hazards.md R208 and the page-cross opcodes of R206. -/

namespace Sys2Proof.Machine

/-- `Shift(f)`: A for the sentinel, else one read and one write; `f` reads the carry before it is changed (R140). -/
def State.shift (s : State) (f : Byte → Bool → Byte × Bool) (ea : EA) : State :=
  let (v, s1) := s.readOperand ea
  let (r, c) := f v (s1.flag .c)
  ((s1.writeOperand ea r).setFlag .c c).setZN r

/-- AND: bitwise AND into A (R136). -/
def State.opAnd (s : State) (ea : EA) : State :=
  let (m, s1) := s.readOperand ea
  (s1.setA (s1.a &&& m)).setZN (s1.a &&& m)

/-- `$21` AND INDX (R136). -/
def execAndIndX (op8 : Byte) (s : State) : Result :=
  instruction .indX 6 false (zext16 op8) (fun ea s => s.opAnd ea) s

/-- `$25` AND ZP (R136). -/
def execAndZp (op8 : Byte) (s : State) : Result :=
  instruction .zp 3 false (zext16 op8) (fun ea s => s.opAnd ea) s

/-- `$29` AND IMM (R136). -/
def execAndImm (op8 : Byte) (s : State) : Result :=
  instruction .imm 2 false (zext16 op8) (fun ea s => s.opAnd ea) s

/-- `$2D` AND ABS (R136). -/
def execAndAbs (op16 : Addr) (s : State) : Result :=
  instruction .abs 4 false op16 (fun ea s => s.opAnd ea) s

/-- `$31` AND INDY (R136). -/
def execAndIndY (op8 : Byte) (s : State) : Result :=
  instruction .indY 5 true (zext16 op8) (fun ea s => s.opAnd ea) s

/-- `$35` AND ZPX (R136). -/
def execAndZpX (op8 : Byte) (s : State) : Result :=
  instruction .zpX 4 false (zext16 op8) (fun ea s => s.opAnd ea) s

/-- `$39` AND ABSY (R136). -/
def execAndAbsY (op16 : Addr) (s : State) : Result :=
  instruction .absY 4 true op16 (fun ea s => s.opAnd ea) s

/-- `$3D` AND ABSX (R136). -/
def execAndAbsX (op16 : Addr) (s : State) : Result :=
  instruction .absX 4 true op16 (fun ea s => s.opAnd ea) s

/-- ORA: bitwise OR into A (R137). -/
def State.opOra (s : State) (ea : EA) : State :=
  let (m, s1) := s.readOperand ea
  (s1.setA (s1.a ||| m)).setZN (s1.a ||| m)

/-- `$01` ORA INDX (R137). -/
def execOraIndX (op8 : Byte) (s : State) : Result :=
  instruction .indX 6 false (zext16 op8) (fun ea s => s.opOra ea) s

/-- `$05` ORA ZP (R137). -/
def execOraZp (op8 : Byte) (s : State) : Result :=
  instruction .zp 3 false (zext16 op8) (fun ea s => s.opOra ea) s

/-- `$09` ORA IMM (R137). -/
def execOraImm (op8 : Byte) (s : State) : Result :=
  instruction .imm 2 false (zext16 op8) (fun ea s => s.opOra ea) s

/-- `$0D` ORA ABS (R137). -/
def execOraAbs (op16 : Addr) (s : State) : Result :=
  instruction .abs 4 false op16 (fun ea s => s.opOra ea) s

/-- `$11` ORA INDY (R137). -/
def execOraIndY (op8 : Byte) (s : State) : Result :=
  instruction .indY 5 true (zext16 op8) (fun ea s => s.opOra ea) s

/-- `$15` ORA ZPX (R137). -/
def execOraZpX (op8 : Byte) (s : State) : Result :=
  instruction .zpX 4 false (zext16 op8) (fun ea s => s.opOra ea) s

/-- `$19` ORA ABSY (R137). -/
def execOraAbsY (op16 : Addr) (s : State) : Result :=
  instruction .absY 4 true op16 (fun ea s => s.opOra ea) s

/-- `$1D` ORA ABSX (R137). -/
def execOraAbsX (op16 : Addr) (s : State) : Result :=
  instruction .absX 4 true op16 (fun ea s => s.opOra ea) s

/-- EOR: bitwise exclusive OR into A (R138). -/
def State.opEor (s : State) (ea : EA) : State :=
  let (m, s1) := s.readOperand ea
  (s1.setA (s1.a ^^^ m)).setZN (s1.a ^^^ m)

/-- `$41` EOR INDX (R138). -/
def execEorIndX (op8 : Byte) (s : State) : Result :=
  instruction .indX 6 false (zext16 op8) (fun ea s => s.opEor ea) s

/-- `$45` EOR ZP (R138). -/
def execEorZp (op8 : Byte) (s : State) : Result :=
  instruction .zp 3 false (zext16 op8) (fun ea s => s.opEor ea) s

/-- `$49` EOR IMM (R138). -/
def execEorImm (op8 : Byte) (s : State) : Result :=
  instruction .imm 2 false (zext16 op8) (fun ea s => s.opEor ea) s

/-- `$4D` EOR ABS (R138). -/
def execEorAbs (op16 : Addr) (s : State) : Result :=
  instruction .abs 4 false op16 (fun ea s => s.opEor ea) s

/-- `$51` EOR INDY (R138). -/
def execEorIndY (op8 : Byte) (s : State) : Result :=
  instruction .indY 5 true (zext16 op8) (fun ea s => s.opEor ea) s

/-- `$55` EOR ZPX (R138). -/
def execEorZpX (op8 : Byte) (s : State) : Result :=
  instruction .zpX 4 false (zext16 op8) (fun ea s => s.opEor ea) s

/-- `$59` EOR ABSY (R138). -/
def execEorAbsY (op16 : Addr) (s : State) : Result :=
  instruction .absY 4 true op16 (fun ea s => s.opEor ea) s

/-- `$5D` EOR ABSX (R138). -/
def execEorAbsX (op16 : Addr) (s : State) : Result :=
  instruction .absX 4 true op16 (fun ea s => s.opEor ea) s

/-- BIT: test bits; A is not written (R139). -/
def State.opBit (s : State) (ea : EA) : State :=
  let (m, s1) := s.readOperand ea
  s1.testBits m

/-- `$24` BIT ZP (R139). -/
def execBitZp (op8 : Byte) (s : State) : Result :=
  instruction .zp 3 false (zext16 op8) (fun ea s => s.opBit ea) s

/-- `$2C` BIT ABS (R139). -/
def execBitAbs (op16 : Addr) (s : State) : Result :=
  instruction .abs 4 false op16 (fun ea s => s.opBit ea) s

/-- ASL: arithmetic shift left (R141). -/
def State.opAsl (s : State) (ea : EA) : State :=
  s.shift aslFn ea

/-- `$06` ASL ZP (R141). -/
def execAslZp (op8 : Byte) (s : State) : Result :=
  instruction .zp 5 false (zext16 op8) (fun ea s => s.opAsl ea) s

/-- `$0A` ASL ACC (R141). -/
def execAslAcc (s : State) : Result :=
  instruction .acc 2 false 0#16 (fun ea s => s.opAsl ea) s

/-- `$0E` ASL ABS (R141). -/
def execAslAbs (op16 : Addr) (s : State) : Result :=
  instruction .abs 6 false op16 (fun ea s => s.opAsl ea) s

/-- `$16` ASL ZPX (R141). -/
def execAslZpX (op8 : Byte) (s : State) : Result :=
  instruction .zpX 6 false (zext16 op8) (fun ea s => s.opAsl ea) s

/-- `$1E` ASL ABSX (R141). -/
def execAslAbsX (op16 : Addr) (s : State) : Result :=
  instruction .absX 7 false op16 (fun ea s => s.opAsl ea) s

/-- LSR: logical shift right (R142). -/
def State.opLsr (s : State) (ea : EA) : State :=
  s.shift lsrFn ea

/-- `$46` LSR ZP (R142). -/
def execLsrZp (op8 : Byte) (s : State) : Result :=
  instruction .zp 5 false (zext16 op8) (fun ea s => s.opLsr ea) s

/-- `$4A` LSR ACC (R142). -/
def execLsrAcc (s : State) : Result :=
  instruction .acc 2 false 0#16 (fun ea s => s.opLsr ea) s

/-- `$4E` LSR ABS (R142). -/
def execLsrAbs (op16 : Addr) (s : State) : Result :=
  instruction .abs 6 false op16 (fun ea s => s.opLsr ea) s

/-- `$56` LSR ZPX (R142). -/
def execLsrZpX (op8 : Byte) (s : State) : Result :=
  instruction .zpX 6 false (zext16 op8) (fun ea s => s.opLsr ea) s

/-- `$5E` LSR ABSX (R142). -/
def execLsrAbsX (op16 : Addr) (s : State) : Result :=
  instruction .absX 7 false op16 (fun ea s => s.opLsr ea) s

/-- ROL: rotate left through carry (R143). -/
def State.opRol (s : State) (ea : EA) : State :=
  s.shift rolFn ea

/-- `$26` ROL ZP (R143). -/
def execRolZp (op8 : Byte) (s : State) : Result :=
  instruction .zp 5 false (zext16 op8) (fun ea s => s.opRol ea) s

/-- `$2A` ROL ACC (R143). -/
def execRolAcc (s : State) : Result :=
  instruction .acc 2 false 0#16 (fun ea s => s.opRol ea) s

/-- `$2E` ROL ABS (R143). -/
def execRolAbs (op16 : Addr) (s : State) : Result :=
  instruction .abs 6 false op16 (fun ea s => s.opRol ea) s

/-- `$36` ROL ZPX (R143). -/
def execRolZpX (op8 : Byte) (s : State) : Result :=
  instruction .zpX 6 false (zext16 op8) (fun ea s => s.opRol ea) s

/-- `$3E` ROL ABSX (R143). -/
def execRolAbsX (op16 : Addr) (s : State) : Result :=
  instruction .absX 7 false op16 (fun ea s => s.opRol ea) s

/-- ROR: rotate right through carry (R144). -/
def State.opRor (s : State) (ea : EA) : State :=
  s.shift rorFn ea

/-- `$66` ROR ZP (R144). -/
def execRorZp (op8 : Byte) (s : State) : Result :=
  instruction .zp 5 false (zext16 op8) (fun ea s => s.opRor ea) s

/-- `$6A` ROR ACC (R144). -/
def execRorAcc (s : State) : Result :=
  instruction .acc 2 false 0#16 (fun ea s => s.opRor ea) s

/-- `$6E` ROR ABS (R144). -/
def execRorAbs (op16 : Addr) (s : State) : Result :=
  instruction .abs 6 false op16 (fun ea s => s.opRor ea) s

/-- `$76` ROR ZPX (R144). -/
def execRorZpX (op8 : Byte) (s : State) : Result :=
  instruction .zpX 6 false (zext16 op8) (fun ea s => s.opRor ea) s

/-- `$7E` ROR ABSX (R144). -/
def execRorAbsX (op16 : Addr) (s : State) : Result :=
  instruction .absX 7 false op16 (fun ea s => s.opRor ea) s

end Sys2Proof.Machine
end

