-- ==== Sys2Proof/Machine/Stack.lean ====
section
/-! DEFINITION. Stack operations, flag operations, NOP and KIL (45_stack_flag_misc.md): what each operation does once EA is resolved and PC has advanced, and
below it the meaning of each opcode, with the base cycles of 70_reset_and_hazards.md R208 and the page-cross opcodes of R206. -/

namespace Sys2Proof.Machine

/-- PHA: push A (R159). -/
def State.opPha (s : State) (_ : EA) : State :=
  s.push s.a

/-- `$48` PHA IMP (R159). -/
def execPha (s : State) : Result :=
  instruction .imp 3 false 0#16 (fun ea s => s.opPha ea) s

/-- PHP: push P as stored (R160). -/
def State.opPhp (s : State) (_ : EA) : State :=
  s.push s.p

/-- `$08` PHP IMP (R160). -/
def execPhp (s : State) : Result :=
  instruction .imp 3 false 0#16 (fun ea s => s.opPhp ea) s

/-- PLA: pull A (R161). -/
def State.opPla (s : State) (_ : EA) : State :=
  let (v, s1) := s.pull
  (s1.setA v).setZN v

/-- `$68` PLA IMP (R161). -/
def execPla (s : State) : Result :=
  instruction .imp 4 false 0#16 (fun ea s => s.opPla ea) s

/-- PLP: pull P verbatim (R162). -/
def State.opPlp (s : State) (_ : EA) : State :=
  let (v, s1) := s.pull
  s1.setP v

/-- `$28` PLP IMP (R162). -/
def execPlp (s : State) : Result :=
  instruction .imp 4 false 0#16 (fun ea s => s.opPlp ea) s

/-- CLC: clear carry (R163). -/
def State.opClc (s : State) (_ : EA) : State :=
  s.setFlag .c false

/-- `$18` CLC IMP (R163). -/
def execClc (s : State) : Result :=
  instruction .imp 2 false 0#16 (fun ea s => s.opClc ea) s

/-- CLD: clear decimal (R164). -/
def State.opCld (s : State) (_ : EA) : State :=
  s.setFlag .d false

/-- `$D8` CLD IMP (R164). -/
def execCld (s : State) : Result :=
  instruction .imp 2 false 0#16 (fun ea s => s.opCld ea) s

/-- CLI: clear interrupt-disable (R165). -/
def State.opCli (s : State) (_ : EA) : State :=
  s.setFlag .i false

/-- `$58` CLI IMP (R165). -/
def execCli (s : State) : Result :=
  instruction .imp 2 false 0#16 (fun ea s => s.opCli ea) s

/-- CLV: clear overflow (R166). -/
def State.opClv (s : State) (_ : EA) : State :=
  s.setFlag .v false

/-- `$B8` CLV IMP (R166). -/
def execClv (s : State) : Result :=
  instruction .imp 2 false 0#16 (fun ea s => s.opClv ea) s

/-- SEC: set carry (R167). -/
def State.opSec (s : State) (_ : EA) : State :=
  s.setFlag .c true

/-- `$38` SEC IMP (R167). -/
def execSec (s : State) : Result :=
  instruction .imp 2 false 0#16 (fun ea s => s.opSec ea) s

/-- SED: set decimal (R168). -/
def State.opSed (s : State) (_ : EA) : State :=
  s.setFlag .d true

/-- `$F8` SED IMP (R168). -/
def execSed (s : State) : Result :=
  instruction .imp 2 false 0#16 (fun ea s => s.opSed ea) s

/-- SEI: set interrupt-disable (R169). -/
def State.opSei (s : State) (_ : EA) : State :=
  s.setFlag .i true

/-- `$78` SEI IMP (R169). -/
def execSei (s : State) : Result :=
  instruction .imp 2 false 0#16 (fun ea s => s.opSei ea) s

/-- NOP: no operation, documented (R170) or not (R171): no access at EA (R170, R171). -/
def State.opNop (s : State) (_ : EA) : State :=
  s

/-- `$EA` NOP IMP (R170). -/
def execNop (s : State) : Result :=
  instruction .imp 2 false 0#16 (fun ea s => s.opNop ea) s

/-- `$03` NOP INDX (R171). -/
def execNop03 (op8 : Byte) (s : State) : Result :=
  instruction .indX 8 false (zext16 op8) (fun ea s => s.opNop ea) s

/-- `$04` NOP ZP (R171). -/
def execNop04 (op8 : Byte) (s : State) : Result :=
  instruction .zp 3 false (zext16 op8) (fun ea s => s.opNop ea) s

/-- `$07` NOP ZP (R171). -/
def execNop07 (op8 : Byte) (s : State) : Result :=
  instruction .zp 5 false (zext16 op8) (fun ea s => s.opNop ea) s

/-- `$0B` NOP IMM (R171). -/
def execNop0B (op8 : Byte) (s : State) : Result :=
  instruction .imm 2 false (zext16 op8) (fun ea s => s.opNop ea) s

/-- `$0C` NOP ABS (R171). -/
def execNop0C (op16 : Addr) (s : State) : Result :=
  instruction .abs 4 false op16 (fun ea s => s.opNop ea) s

/-- `$0F` NOP ABS (R171). -/
def execNop0F (op16 : Addr) (s : State) : Result :=
  instruction .abs 6 false op16 (fun ea s => s.opNop ea) s

/-- `$13` NOP INDY (R171). -/
def execNop13 (op8 : Byte) (s : State) : Result :=
  instruction .indY 8 false (zext16 op8) (fun ea s => s.opNop ea) s

/-- `$14` NOP ZPX (R171). -/
def execNop14 (op8 : Byte) (s : State) : Result :=
  instruction .zpX 4 false (zext16 op8) (fun ea s => s.opNop ea) s

/-- `$17` NOP ZPX (R171). -/
def execNop17 (op8 : Byte) (s : State) : Result :=
  instruction .zpX 6 false (zext16 op8) (fun ea s => s.opNop ea) s

/-- `$1A` NOP IMP (R171). -/
def execNop1A (s : State) : Result :=
  instruction .imp 2 false 0#16 (fun ea s => s.opNop ea) s

/-- `$1B` NOP ABSY (R171). -/
def execNop1B (op16 : Addr) (s : State) : Result :=
  instruction .absY 7 false op16 (fun ea s => s.opNop ea) s

/-- `$1C` NOP ABSX (R171). -/
def execNop1C (op16 : Addr) (s : State) : Result :=
  instruction .absX 4 true op16 (fun ea s => s.opNop ea) s

/-- `$1F` NOP ABSX (R171). -/
def execNop1F (op16 : Addr) (s : State) : Result :=
  instruction .absX 7 false op16 (fun ea s => s.opNop ea) s

/-- `$23` NOP INDX (R171). -/
def execNop23 (op8 : Byte) (s : State) : Result :=
  instruction .indX 8 false (zext16 op8) (fun ea s => s.opNop ea) s

/-- `$27` NOP ZP (R171). -/
def execNop27 (op8 : Byte) (s : State) : Result :=
  instruction .zp 5 false (zext16 op8) (fun ea s => s.opNop ea) s

/-- `$2B` NOP IMM (R171). -/
def execNop2B (op8 : Byte) (s : State) : Result :=
  instruction .imm 2 false (zext16 op8) (fun ea s => s.opNop ea) s

/-- `$2F` NOP ABS (R171). -/
def execNop2F (op16 : Addr) (s : State) : Result :=
  instruction .abs 6 false op16 (fun ea s => s.opNop ea) s

/-- `$33` NOP INDY (R171). -/
def execNop33 (op8 : Byte) (s : State) : Result :=
  instruction .indY 8 false (zext16 op8) (fun ea s => s.opNop ea) s

/-- `$34` NOP ZPX (R171). -/
def execNop34 (op8 : Byte) (s : State) : Result :=
  instruction .zpX 4 false (zext16 op8) (fun ea s => s.opNop ea) s

/-- `$37` NOP ZPX (R171). -/
def execNop37 (op8 : Byte) (s : State) : Result :=
  instruction .zpX 6 false (zext16 op8) (fun ea s => s.opNop ea) s

/-- `$3A` NOP IMP (R171). -/
def execNop3A (s : State) : Result :=
  instruction .imp 2 false 0#16 (fun ea s => s.opNop ea) s

/-- `$3B` NOP ABSY (R171). -/
def execNop3B (op16 : Addr) (s : State) : Result :=
  instruction .absY 7 false op16 (fun ea s => s.opNop ea) s

/-- `$3C` NOP ABSX (R171). -/
def execNop3C (op16 : Addr) (s : State) : Result :=
  instruction .absX 4 true op16 (fun ea s => s.opNop ea) s

/-- `$3F` NOP ABSX (R171). -/
def execNop3F (op16 : Addr) (s : State) : Result :=
  instruction .absX 7 false op16 (fun ea s => s.opNop ea) s

/-- `$43` NOP INDX (R171). -/
def execNop43 (op8 : Byte) (s : State) : Result :=
  instruction .indX 8 false (zext16 op8) (fun ea s => s.opNop ea) s

/-- `$44` NOP ZP (R171). -/
def execNop44 (op8 : Byte) (s : State) : Result :=
  instruction .zp 3 false (zext16 op8) (fun ea s => s.opNop ea) s

/-- `$47` NOP ZP (R171). -/
def execNop47 (op8 : Byte) (s : State) : Result :=
  instruction .zp 5 false (zext16 op8) (fun ea s => s.opNop ea) s

/-- `$4B` NOP IMM (R171). -/
def execNop4B (op8 : Byte) (s : State) : Result :=
  instruction .imm 2 false (zext16 op8) (fun ea s => s.opNop ea) s

/-- `$4F` NOP ABS (R171). -/
def execNop4F (op16 : Addr) (s : State) : Result :=
  instruction .abs 6 false op16 (fun ea s => s.opNop ea) s

/-- `$53` NOP INDY (R171). -/
def execNop53 (op8 : Byte) (s : State) : Result :=
  instruction .indY 8 false (zext16 op8) (fun ea s => s.opNop ea) s

/-- `$54` NOP ZPX (R171). -/
def execNop54 (op8 : Byte) (s : State) : Result :=
  instruction .zpX 4 false (zext16 op8) (fun ea s => s.opNop ea) s

/-- `$57` NOP ZPX (R171). -/
def execNop57 (op8 : Byte) (s : State) : Result :=
  instruction .zpX 6 false (zext16 op8) (fun ea s => s.opNop ea) s

/-- `$5A` NOP IMP (R171). -/
def execNop5A (s : State) : Result :=
  instruction .imp 2 false 0#16 (fun ea s => s.opNop ea) s

/-- `$5B` NOP ABSY (R171). -/
def execNop5B (op16 : Addr) (s : State) : Result :=
  instruction .absY 7 false op16 (fun ea s => s.opNop ea) s

/-- `$5C` NOP ABSX (R171). -/
def execNop5C (op16 : Addr) (s : State) : Result :=
  instruction .absX 4 true op16 (fun ea s => s.opNop ea) s

/-- `$5F` NOP ABSX (R171). -/
def execNop5F (op16 : Addr) (s : State) : Result :=
  instruction .absX 7 false op16 (fun ea s => s.opNop ea) s

/-- `$63` NOP INDX (R171). -/
def execNop63 (op8 : Byte) (s : State) : Result :=
  instruction .indX 8 false (zext16 op8) (fun ea s => s.opNop ea) s

/-- `$64` NOP ZP (R171). -/
def execNop64 (op8 : Byte) (s : State) : Result :=
  instruction .zp 3 false (zext16 op8) (fun ea s => s.opNop ea) s

/-- `$67` NOP ZP (R171). -/
def execNop67 (op8 : Byte) (s : State) : Result :=
  instruction .zp 5 false (zext16 op8) (fun ea s => s.opNop ea) s

/-- `$6B` NOP IMM (R171). -/
def execNop6B (op8 : Byte) (s : State) : Result :=
  instruction .imm 2 false (zext16 op8) (fun ea s => s.opNop ea) s

/-- `$6F` NOP ABS (R171). -/
def execNop6F (op16 : Addr) (s : State) : Result :=
  instruction .abs 6 false op16 (fun ea s => s.opNop ea) s

/-- `$73` NOP INDY (R171). -/
def execNop73 (op8 : Byte) (s : State) : Result :=
  instruction .indY 8 false (zext16 op8) (fun ea s => s.opNop ea) s

/-- `$74` NOP ZPX (R171). -/
def execNop74 (op8 : Byte) (s : State) : Result :=
  instruction .zpX 4 false (zext16 op8) (fun ea s => s.opNop ea) s

/-- `$77` NOP ZPX (R171). -/
def execNop77 (op8 : Byte) (s : State) : Result :=
  instruction .zpX 6 false (zext16 op8) (fun ea s => s.opNop ea) s

/-- `$7A` NOP IMP (R171). -/
def execNop7A (s : State) : Result :=
  instruction .imp 2 false 0#16 (fun ea s => s.opNop ea) s

/-- `$7B` NOP ABSY (R171). -/
def execNop7B (op16 : Addr) (s : State) : Result :=
  instruction .absY 7 false op16 (fun ea s => s.opNop ea) s

/-- `$7C` NOP ABSX (R171). -/
def execNop7C (op16 : Addr) (s : State) : Result :=
  instruction .absX 4 true op16 (fun ea s => s.opNop ea) s

/-- `$7F` NOP ABSX (R171). -/
def execNop7F (op16 : Addr) (s : State) : Result :=
  instruction .absX 7 false op16 (fun ea s => s.opNop ea) s

/-- `$80` NOP IMM (R171). -/
def execNop80 (op8 : Byte) (s : State) : Result :=
  instruction .imm 2 false (zext16 op8) (fun ea s => s.opNop ea) s

/-- `$82` NOP IMM (R171). -/
def execNop82 (op8 : Byte) (s : State) : Result :=
  instruction .imm 2 false (zext16 op8) (fun ea s => s.opNop ea) s

/-- `$83` NOP INDX (R171). -/
def execNop83 (op8 : Byte) (s : State) : Result :=
  instruction .indX 6 false (zext16 op8) (fun ea s => s.opNop ea) s

/-- `$87` NOP ZP (R171). -/
def execNop87 (op8 : Byte) (s : State) : Result :=
  instruction .zp 3 false (zext16 op8) (fun ea s => s.opNop ea) s

/-- `$89` NOP IMM (R171). -/
def execNop89 (op8 : Byte) (s : State) : Result :=
  instruction .imm 2 false (zext16 op8) (fun ea s => s.opNop ea) s

/-- `$8B` NOP IMM (R171). -/
def execNop8B (op8 : Byte) (s : State) : Result :=
  instruction .imm 2 false (zext16 op8) (fun ea s => s.opNop ea) s

/-- `$8F` NOP ABS (R171). -/
def execNop8F (op16 : Addr) (s : State) : Result :=
  instruction .abs 4 false op16 (fun ea s => s.opNop ea) s

/-- `$93` NOP INDY (R171). -/
def execNop93 (op8 : Byte) (s : State) : Result :=
  instruction .indY 6 false (zext16 op8) (fun ea s => s.opNop ea) s

/-- `$97` NOP ZPY (R171). -/
def execNop97 (op8 : Byte) (s : State) : Result :=
  instruction .zpY 4 false (zext16 op8) (fun ea s => s.opNop ea) s

/-- `$9B` NOP ABSY (R171). -/
def execNop9B (op16 : Addr) (s : State) : Result :=
  instruction .absY 5 false op16 (fun ea s => s.opNop ea) s

/-- `$9C` NOP ABSX (R171). -/
def execNop9C (op16 : Addr) (s : State) : Result :=
  instruction .absX 5 false op16 (fun ea s => s.opNop ea) s

/-- `$9E` NOP ABSY (R171). -/
def execNop9E (op16 : Addr) (s : State) : Result :=
  instruction .absY 5 false op16 (fun ea s => s.opNop ea) s

/-- `$9F` NOP ABSY (R171). -/
def execNop9F (op16 : Addr) (s : State) : Result :=
  instruction .absY 5 false op16 (fun ea s => s.opNop ea) s

/-- `$A3` NOP INDX (R171). -/
def execNopA3 (op8 : Byte) (s : State) : Result :=
  instruction .indX 6 false (zext16 op8) (fun ea s => s.opNop ea) s

/-- `$A7` NOP ZP (R171). -/
def execNopA7 (op8 : Byte) (s : State) : Result :=
  instruction .zp 3 false (zext16 op8) (fun ea s => s.opNop ea) s

/-- `$AB` NOP IMM (R171). -/
def execNopAB (op8 : Byte) (s : State) : Result :=
  instruction .imm 2 false (zext16 op8) (fun ea s => s.opNop ea) s

/-- `$AF` NOP ABS (R171). -/
def execNopAF (op16 : Addr) (s : State) : Result :=
  instruction .abs 4 false op16 (fun ea s => s.opNop ea) s

/-- `$B3` NOP INDY (R171). -/
def execNopB3 (op8 : Byte) (s : State) : Result :=
  instruction .indY 5 true (zext16 op8) (fun ea s => s.opNop ea) s

/-- `$B7` NOP ZPY (R171). -/
def execNopB7 (op8 : Byte) (s : State) : Result :=
  instruction .zpY 4 false (zext16 op8) (fun ea s => s.opNop ea) s

/-- `$BB` NOP ABSY (R171). -/
def execNopBB (op16 : Addr) (s : State) : Result :=
  instruction .absY 4 true op16 (fun ea s => s.opNop ea) s

/-- `$BF` NOP ABSY (R171). -/
def execNopBF (op16 : Addr) (s : State) : Result :=
  instruction .absY 4 true op16 (fun ea s => s.opNop ea) s

/-- `$C2` NOP IMM (R171). -/
def execNopC2 (op8 : Byte) (s : State) : Result :=
  instruction .imm 2 false (zext16 op8) (fun ea s => s.opNop ea) s

/-- `$C3` NOP INDX (R171). -/
def execNopC3 (op8 : Byte) (s : State) : Result :=
  instruction .indX 8 false (zext16 op8) (fun ea s => s.opNop ea) s

/-- `$C7` NOP ZP (R171). -/
def execNopC7 (op8 : Byte) (s : State) : Result :=
  instruction .zp 5 false (zext16 op8) (fun ea s => s.opNop ea) s

/-- `$CB` NOP IMM (R171). -/
def execNopCB (op8 : Byte) (s : State) : Result :=
  instruction .imm 2 false (zext16 op8) (fun ea s => s.opNop ea) s

/-- `$CF` NOP ABS (R171). -/
def execNopCF (op16 : Addr) (s : State) : Result :=
  instruction .abs 6 false op16 (fun ea s => s.opNop ea) s

/-- `$D3` NOP INDY (R171). -/
def execNopD3 (op8 : Byte) (s : State) : Result :=
  instruction .indY 8 false (zext16 op8) (fun ea s => s.opNop ea) s

/-- `$D4` NOP ZPX (R171). -/
def execNopD4 (op8 : Byte) (s : State) : Result :=
  instruction .zpX 4 false (zext16 op8) (fun ea s => s.opNop ea) s

/-- `$D7` NOP ZPX (R171). -/
def execNopD7 (op8 : Byte) (s : State) : Result :=
  instruction .zpX 6 false (zext16 op8) (fun ea s => s.opNop ea) s

/-- `$DA` NOP IMP (R171). -/
def execNopDA (s : State) : Result :=
  instruction .imp 2 false 0#16 (fun ea s => s.opNop ea) s

/-- `$DB` NOP ABSY (R171). -/
def execNopDB (op16 : Addr) (s : State) : Result :=
  instruction .absY 7 false op16 (fun ea s => s.opNop ea) s

/-- `$DC` NOP ABSX (R171). -/
def execNopDC (op16 : Addr) (s : State) : Result :=
  instruction .absX 4 true op16 (fun ea s => s.opNop ea) s

/-- `$DF` NOP ABSX (R171). -/
def execNopDF (op16 : Addr) (s : State) : Result :=
  instruction .absX 7 false op16 (fun ea s => s.opNop ea) s

/-- `$E2` NOP IMM (R171). -/
def execNopE2 (op8 : Byte) (s : State) : Result :=
  instruction .imm 2 false (zext16 op8) (fun ea s => s.opNop ea) s

/-- `$E3` NOP INDX (R171). -/
def execNopE3 (op8 : Byte) (s : State) : Result :=
  instruction .indX 8 false (zext16 op8) (fun ea s => s.opNop ea) s

/-- `$E7` NOP ZP (R171). -/
def execNopE7 (op8 : Byte) (s : State) : Result :=
  instruction .zp 5 false (zext16 op8) (fun ea s => s.opNop ea) s

/-- `$EB` NOP IMM (R171). -/
def execNopEB (op8 : Byte) (s : State) : Result :=
  instruction .imm 2 false (zext16 op8) (fun ea s => s.opNop ea) s

/-- `$EF` NOP ABS (R171). -/
def execNopEF (op16 : Addr) (s : State) : Result :=
  instruction .abs 6 false op16 (fun ea s => s.opNop ea) s

/-- `$F3` NOP INDY (R171). -/
def execNopF3 (op8 : Byte) (s : State) : Result :=
  instruction .indY 8 false (zext16 op8) (fun ea s => s.opNop ea) s

/-- `$F4` NOP ZPX (R171). -/
def execNopF4 (op8 : Byte) (s : State) : Result :=
  instruction .zpX 4 false (zext16 op8) (fun ea s => s.opNop ea) s

/-- `$F7` NOP ZPX (R171). -/
def execNopF7 (op8 : Byte) (s : State) : Result :=
  instruction .zpX 6 false (zext16 op8) (fun ea s => s.opNop ea) s

/-- `$FA` NOP IMP (R171). -/
def execNopFA (s : State) : Result :=
  instruction .imp 2 false 0#16 (fun ea s => s.opNop ea) s

/-- `$FB` NOP ABSY (R171). -/
def execNopFB (op16 : Addr) (s : State) : Result :=
  instruction .absY 7 false op16 (fun ea s => s.opNop ea) s

/-- `$FC` NOP ABSX (R171). -/
def execNopFC (op16 : Addr) (s : State) : Result :=
  instruction .absX 4 true op16 (fun ea s => s.opNop ea) s

/-- `$FF` NOP ABSX (R171). -/
def execNopFF (op16 : Addr) (s : State) : Result :=
  instruction .absX 7 false op16 (fun ea s => s.opNop ea) s

/-- KIL: the RESET sequence inside the instruction (60_exceptions.md R188) (R172). -/
def State.opKil (s : State) (_ : EA) : State :=
  s.resetSequence

/-- `$02` KIL IMP (R172). -/
def execKil02 (s : State) : Result :=
  instruction .imp 2 false 0#16 (fun ea s => s.opKil ea) s

/-- `$12` KIL IMP (R172). -/
def execKil12 (s : State) : Result :=
  instruction .imp 2 false 0#16 (fun ea s => s.opKil ea) s

/-- `$22` KIL IMP (R172). -/
def execKil22 (s : State) : Result :=
  instruction .imp 2 false 0#16 (fun ea s => s.opKil ea) s

/-- `$32` KIL IMP (R172). -/
def execKil32 (s : State) : Result :=
  instruction .imp 2 false 0#16 (fun ea s => s.opKil ea) s

/-- `$42` KIL IMP (R172). -/
def execKil42 (s : State) : Result :=
  instruction .imp 2 false 0#16 (fun ea s => s.opKil ea) s

/-- `$52` KIL IMP (R172). -/
def execKil52 (s : State) : Result :=
  instruction .imp 2 false 0#16 (fun ea s => s.opKil ea) s

/-- `$62` KIL IMP (R172). -/
def execKil62 (s : State) : Result :=
  instruction .imp 2 false 0#16 (fun ea s => s.opKil ea) s

/-- `$72` KIL IMP (R172). -/
def execKil72 (s : State) : Result :=
  instruction .imp 2 false 0#16 (fun ea s => s.opKil ea) s

/-- `$92` KIL IMP (R172). -/
def execKil92 (s : State) : Result :=
  instruction .imp 2 false 0#16 (fun ea s => s.opKil ea) s

/-- `$B2` KIL IMP (R172). -/
def execKilB2 (s : State) : Result :=
  instruction .imp 2 false 0#16 (fun ea s => s.opKil ea) s

/-- `$D2` KIL IMP (R172). -/
def execKilD2 (s : State) : Result :=
  instruction .imp 2 false 0#16 (fun ea s => s.opKil ea) s

/-- `$F2` KIL IMP (R172). -/
def execKilF2 (s : State) : Result :=
  instruction .imp 2 false 0#16 (fun ea s => s.opKil ea) s

end Sys2Proof.Machine
end

