-- ==== Sys2Proof/Machine/Transfer.lean ====
section
/-! DEFINITION. Loads, stores and register transfers (41_load_store_transfer.md): what each operation does once EA is resolved and PC has advanced, and
below it the meaning of each opcode, with the base cycles of 70_reset_and_hazards.md R208 and the page-cross opcodes of R206. -/

namespace Sys2Proof.Machine

/-- LDA: load accumulator (R110). -/
def State.opLda (s : State) (ea : EA) : State :=
  let (v, s1) := s.readOperand ea
  (s1.setA v).setZN v

/-- `$A1` LDA INDX (R110). -/
def execLdaIndX (op8 : Byte) (s : State) : Result :=
  instruction .indX 6 false (zext16 op8) (fun ea s => s.opLda ea) s

/-- `$A5` LDA ZP (R110). -/
def execLdaZp (op8 : Byte) (s : State) : Result :=
  instruction .zp 3 false (zext16 op8) (fun ea s => s.opLda ea) s

/-- `$A9` LDA IMM (R110). -/
def execLdaImm (op8 : Byte) (s : State) : Result :=
  instruction .imm 2 false (zext16 op8) (fun ea s => s.opLda ea) s

/-- `$AD` LDA ABS (R110). -/
def execLdaAbs (op16 : Addr) (s : State) : Result :=
  instruction .abs 4 false op16 (fun ea s => s.opLda ea) s

/-- `$B1` LDA INDY (R110). -/
def execLdaIndY (op8 : Byte) (s : State) : Result :=
  instruction .indY 5 true (zext16 op8) (fun ea s => s.opLda ea) s

/-- `$B5` LDA ZPX (R110). -/
def execLdaZpX (op8 : Byte) (s : State) : Result :=
  instruction .zpX 4 false (zext16 op8) (fun ea s => s.opLda ea) s

/-- `$B9` LDA ABSY (R110). -/
def execLdaAbsY (op16 : Addr) (s : State) : Result :=
  instruction .absY 4 true op16 (fun ea s => s.opLda ea) s

/-- `$BD` LDA ABSX (R110). -/
def execLdaAbsX (op16 : Addr) (s : State) : Result :=
  instruction .absX 4 true op16 (fun ea s => s.opLda ea) s

/-- LDX: load X (R111). -/
def State.opLdx (s : State) (ea : EA) : State :=
  let (v, s1) := s.readOperand ea
  (s1.setX v).setZN v

/-- `$A2` LDX IMM (R111). -/
def execLdxImm (op8 : Byte) (s : State) : Result :=
  instruction .imm 2 false (zext16 op8) (fun ea s => s.opLdx ea) s

/-- `$A6` LDX ZP (R111). -/
def execLdxZp (op8 : Byte) (s : State) : Result :=
  instruction .zp 3 false (zext16 op8) (fun ea s => s.opLdx ea) s

/-- `$AE` LDX ABS (R111). -/
def execLdxAbs (op16 : Addr) (s : State) : Result :=
  instruction .abs 4 false op16 (fun ea s => s.opLdx ea) s

/-- `$B6` LDX ZPY (R111). -/
def execLdxZpY (op8 : Byte) (s : State) : Result :=
  instruction .zpY 4 false (zext16 op8) (fun ea s => s.opLdx ea) s

/-- `$BE` LDX ABSY (R111). -/
def execLdxAbsY (op16 : Addr) (s : State) : Result :=
  instruction .absY 4 true op16 (fun ea s => s.opLdx ea) s

/-- LDY: load Y (R112). -/
def State.opLdy (s : State) (ea : EA) : State :=
  let (v, s1) := s.readOperand ea
  (s1.setY v).setZN v

/-- `$A0` LDY IMM (R112). -/
def execLdyImm (op8 : Byte) (s : State) : Result :=
  instruction .imm 2 false (zext16 op8) (fun ea s => s.opLdy ea) s

/-- `$A4` LDY ZP (R112). -/
def execLdyZp (op8 : Byte) (s : State) : Result :=
  instruction .zp 3 false (zext16 op8) (fun ea s => s.opLdy ea) s

/-- `$AC` LDY ABS (R112). -/
def execLdyAbs (op16 : Addr) (s : State) : Result :=
  instruction .abs 4 false op16 (fun ea s => s.opLdy ea) s

/-- `$B4` LDY ZPX (R112). -/
def execLdyZpX (op8 : Byte) (s : State) : Result :=
  instruction .zpX 4 false (zext16 op8) (fun ea s => s.opLdy ea) s

/-- `$BC` LDY ABSX (R112). -/
def execLdyAbsX (op16 : Addr) (s : State) : Result :=
  instruction .absX 4 true op16 (fun ea s => s.opLdy ea) s

/-- STA: store accumulator; no flag (R113). -/
def State.opSta (s : State) (ea : EA) : State :=
  s.writeOperand ea s.a

/-- `$81` STA INDX (R113). -/
def execStaIndX (op8 : Byte) (s : State) : Result :=
  instruction .indX 6 false (zext16 op8) (fun ea s => s.opSta ea) s

/-- `$85` STA ZP (R113). -/
def execStaZp (op8 : Byte) (s : State) : Result :=
  instruction .zp 3 false (zext16 op8) (fun ea s => s.opSta ea) s

/-- `$8D` STA ABS (R113). -/
def execStaAbs (op16 : Addr) (s : State) : Result :=
  instruction .abs 4 false op16 (fun ea s => s.opSta ea) s

/-- `$91` STA INDY (R113). -/
def execStaIndY (op8 : Byte) (s : State) : Result :=
  instruction .indY 6 false (zext16 op8) (fun ea s => s.opSta ea) s

/-- `$95` STA ZPX (R113). -/
def execStaZpX (op8 : Byte) (s : State) : Result :=
  instruction .zpX 4 false (zext16 op8) (fun ea s => s.opSta ea) s

/-- `$99` STA ABSY (R113). -/
def execStaAbsY (op16 : Addr) (s : State) : Result :=
  instruction .absY 5 false op16 (fun ea s => s.opSta ea) s

/-- `$9D` STA ABSX (R113). -/
def execStaAbsX (op16 : Addr) (s : State) : Result :=
  instruction .absX 5 false op16 (fun ea s => s.opSta ea) s

/-- STX: store X; no flag (R114). -/
def State.opStx (s : State) (ea : EA) : State :=
  s.writeOperand ea s.x

/-- `$86` STX ZP (R114). -/
def execStxZp (op8 : Byte) (s : State) : Result :=
  instruction .zp 3 false (zext16 op8) (fun ea s => s.opStx ea) s

/-- `$8E` STX ABS (R114). -/
def execStxAbs (op16 : Addr) (s : State) : Result :=
  instruction .abs 4 false op16 (fun ea s => s.opStx ea) s

/-- `$96` STX ZPY (R114). -/
def execStxZpY (op8 : Byte) (s : State) : Result :=
  instruction .zpY 4 false (zext16 op8) (fun ea s => s.opStx ea) s

/-- STY: store Y; no flag (R115). -/
def State.opSty (s : State) (ea : EA) : State :=
  s.writeOperand ea s.y

/-- `$84` STY ZP (R115). -/
def execStyZp (op8 : Byte) (s : State) : Result :=
  instruction .zp 3 false (zext16 op8) (fun ea s => s.opSty ea) s

/-- `$8C` STY ABS (R115). -/
def execStyAbs (op16 : Addr) (s : State) : Result :=
  instruction .abs 4 false op16 (fun ea s => s.opSty ea) s

/-- `$94` STY ZPX (R115). -/
def execStyZpX (op8 : Byte) (s : State) : Result :=
  instruction .zpX 4 false (zext16 op8) (fun ea s => s.opSty ea) s

/-- TAX: transfer A to X (R116). -/
def State.opTax (s : State) (_ : EA) : State :=
  (s.setX s.a).setZN s.a

/-- `$AA` TAX IMP (R116). -/
def execTax (s : State) : Result :=
  instruction .imp 2 false 0#16 (fun ea s => s.opTax ea) s

/-- TAY: transfer A to Y (R117). -/
def State.opTay (s : State) (_ : EA) : State :=
  (s.setY s.a).setZN s.a

/-- `$A8` TAY IMP (R117). -/
def execTay (s : State) : Result :=
  instruction .imp 2 false 0#16 (fun ea s => s.opTay ea) s

/-- TXA: transfer X to A (R118). -/
def State.opTxa (s : State) (_ : EA) : State :=
  (s.setA s.x).setZN s.x

/-- `$8A` TXA IMP (R118). -/
def execTxa (s : State) : Result :=
  instruction .imp 2 false 0#16 (fun ea s => s.opTxa ea) s

/-- TYA: transfer Y to A (R119). -/
def State.opTya (s : State) (_ : EA) : State :=
  (s.setA s.y).setZN s.y

/-- `$98` TYA IMP (R119). -/
def execTya (s : State) : Result :=
  instruction .imp 2 false 0#16 (fun ea s => s.opTya ea) s

/-- TSX: transfer SP to X (R120). -/
def State.opTsx (s : State) (_ : EA) : State :=
  (s.setX s.sp).setZN s.sp

/-- `$BA` TSX IMP (R120). -/
def execTsx (s : State) : Result :=
  instruction .imp 2 false 0#16 (fun ea s => s.opTsx ea) s

/-- TXS: transfer X to SP; no flag (R121). -/
def State.opTxs (s : State) (_ : EA) : State :=
  s.setSp s.x

/-- `$9A` TXS IMP (R121). -/
def execTxs (s : State) : Result :=
  instruction .imp 2 false 0#16 (fun ea s => s.opTxs ea) s

end Sys2Proof.Machine
end

