-- ==== Sys2Proof/Machine/Dispatch.lean ====
section
/-! DEFINITION. One arm for each constructor of Instr, each one direct call of the instruction's meaning. -/

namespace Sys2Proof.Machine

def exec (i : Instr) (s : State) : Host.Outcome State Fault Refusal :=
  match i with
  | .ldaIndX op8 => Sys2Proof.Machine.execLdaIndX op8 s
  | .ldaZp op8 => Sys2Proof.Machine.execLdaZp op8 s
  | .ldaImm op8 => Sys2Proof.Machine.execLdaImm op8 s
  | .ldaAbs op16 => Sys2Proof.Machine.execLdaAbs op16 s
  | .ldaIndY op8 => Sys2Proof.Machine.execLdaIndY op8 s
  | .ldaZpX op8 => Sys2Proof.Machine.execLdaZpX op8 s
  | .ldaAbsY op16 => Sys2Proof.Machine.execLdaAbsY op16 s
  | .ldaAbsX op16 => Sys2Proof.Machine.execLdaAbsX op16 s
  | .ldxImm op8 => Sys2Proof.Machine.execLdxImm op8 s
  | .ldxZp op8 => Sys2Proof.Machine.execLdxZp op8 s
  | .ldxAbs op16 => Sys2Proof.Machine.execLdxAbs op16 s
  | .ldxZpY op8 => Sys2Proof.Machine.execLdxZpY op8 s
  | .ldxAbsY op16 => Sys2Proof.Machine.execLdxAbsY op16 s
  | .ldyImm op8 => Sys2Proof.Machine.execLdyImm op8 s
  | .ldyZp op8 => Sys2Proof.Machine.execLdyZp op8 s
  | .ldyAbs op16 => Sys2Proof.Machine.execLdyAbs op16 s
  | .ldyZpX op8 => Sys2Proof.Machine.execLdyZpX op8 s
  | .ldyAbsX op16 => Sys2Proof.Machine.execLdyAbsX op16 s
  | .staIndX op8 => Sys2Proof.Machine.execStaIndX op8 s
  | .staZp op8 => Sys2Proof.Machine.execStaZp op8 s
  | .staAbs op16 => Sys2Proof.Machine.execStaAbs op16 s
  | .staIndY op8 => Sys2Proof.Machine.execStaIndY op8 s
  | .staZpX op8 => Sys2Proof.Machine.execStaZpX op8 s
  | .staAbsY op16 => Sys2Proof.Machine.execStaAbsY op16 s
  | .staAbsX op16 => Sys2Proof.Machine.execStaAbsX op16 s
  | .stxZp op8 => Sys2Proof.Machine.execStxZp op8 s
  | .stxAbs op16 => Sys2Proof.Machine.execStxAbs op16 s
  | .stxZpY op8 => Sys2Proof.Machine.execStxZpY op8 s
  | .styZp op8 => Sys2Proof.Machine.execStyZp op8 s
  | .styAbs op16 => Sys2Proof.Machine.execStyAbs op16 s
  | .styZpX op8 => Sys2Proof.Machine.execStyZpX op8 s
  | .tax => Sys2Proof.Machine.execTax s
  | .tay => Sys2Proof.Machine.execTay s
  | .txa => Sys2Proof.Machine.execTxa s
  | .tya => Sys2Proof.Machine.execTya s
  | .tsx => Sys2Proof.Machine.execTsx s
  | .txs => Sys2Proof.Machine.execTxs s
  | .adcIndX op8 => Sys2Proof.Machine.execAdcIndX op8 s
  | .adcZp op8 => Sys2Proof.Machine.execAdcZp op8 s
  | .adcImm op8 => Sys2Proof.Machine.execAdcImm op8 s
  | .adcAbs op16 => Sys2Proof.Machine.execAdcAbs op16 s
  | .adcIndY op8 => Sys2Proof.Machine.execAdcIndY op8 s
  | .adcZpX op8 => Sys2Proof.Machine.execAdcZpX op8 s
  | .adcAbsY op16 => Sys2Proof.Machine.execAdcAbsY op16 s
  | .adcAbsX op16 => Sys2Proof.Machine.execAdcAbsX op16 s
  | .sbcIndX op8 => Sys2Proof.Machine.execSbcIndX op8 s
  | .sbcZp op8 => Sys2Proof.Machine.execSbcZp op8 s
  | .sbcImm op8 => Sys2Proof.Machine.execSbcImm op8 s
  | .sbcAbs op16 => Sys2Proof.Machine.execSbcAbs op16 s
  | .sbcIndY op8 => Sys2Proof.Machine.execSbcIndY op8 s
  | .sbcZpX op8 => Sys2Proof.Machine.execSbcZpX op8 s
  | .sbcAbsY op16 => Sys2Proof.Machine.execSbcAbsY op16 s
  | .sbcAbsX op16 => Sys2Proof.Machine.execSbcAbsX op16 s
  | .cmpIndX op8 => Sys2Proof.Machine.execCmpIndX op8 s
  | .cmpZp op8 => Sys2Proof.Machine.execCmpZp op8 s
  | .cmpImm op8 => Sys2Proof.Machine.execCmpImm op8 s
  | .cmpAbs op16 => Sys2Proof.Machine.execCmpAbs op16 s
  | .cmpIndY op8 => Sys2Proof.Machine.execCmpIndY op8 s
  | .cmpZpX op8 => Sys2Proof.Machine.execCmpZpX op8 s
  | .cmpAbsY op16 => Sys2Proof.Machine.execCmpAbsY op16 s
  | .cmpAbsX op16 => Sys2Proof.Machine.execCmpAbsX op16 s
  | .cpxImm op8 => Sys2Proof.Machine.execCpxImm op8 s
  | .cpxZp op8 => Sys2Proof.Machine.execCpxZp op8 s
  | .cpxAbs op16 => Sys2Proof.Machine.execCpxAbs op16 s
  | .cpyImm op8 => Sys2Proof.Machine.execCpyImm op8 s
  | .cpyZp op8 => Sys2Proof.Machine.execCpyZp op8 s
  | .cpyAbs op16 => Sys2Proof.Machine.execCpyAbs op16 s
  | .incZp op8 => Sys2Proof.Machine.execIncZp op8 s
  | .incAbs op16 => Sys2Proof.Machine.execIncAbs op16 s
  | .incZpX op8 => Sys2Proof.Machine.execIncZpX op8 s
  | .incAbsX op16 => Sys2Proof.Machine.execIncAbsX op16 s
  | .decZp op8 => Sys2Proof.Machine.execDecZp op8 s
  | .decAbs op16 => Sys2Proof.Machine.execDecAbs op16 s
  | .decZpX op8 => Sys2Proof.Machine.execDecZpX op8 s
  | .decAbsX op16 => Sys2Proof.Machine.execDecAbsX op16 s
  | .inx => Sys2Proof.Machine.execInx s
  | .iny => Sys2Proof.Machine.execIny s
  | .dex => Sys2Proof.Machine.execDex s
  | .dey => Sys2Proof.Machine.execDey s
  | .andIndX op8 => Sys2Proof.Machine.execAndIndX op8 s
  | .andZp op8 => Sys2Proof.Machine.execAndZp op8 s
  | .andImm op8 => Sys2Proof.Machine.execAndImm op8 s
  | .andAbs op16 => Sys2Proof.Machine.execAndAbs op16 s
  | .andIndY op8 => Sys2Proof.Machine.execAndIndY op8 s
  | .andZpX op8 => Sys2Proof.Machine.execAndZpX op8 s
  | .andAbsY op16 => Sys2Proof.Machine.execAndAbsY op16 s
  | .andAbsX op16 => Sys2Proof.Machine.execAndAbsX op16 s
  | .oraIndX op8 => Sys2Proof.Machine.execOraIndX op8 s
  | .oraZp op8 => Sys2Proof.Machine.execOraZp op8 s
  | .oraImm op8 => Sys2Proof.Machine.execOraImm op8 s
  | .oraAbs op16 => Sys2Proof.Machine.execOraAbs op16 s
  | .oraIndY op8 => Sys2Proof.Machine.execOraIndY op8 s
  | .oraZpX op8 => Sys2Proof.Machine.execOraZpX op8 s
  | .oraAbsY op16 => Sys2Proof.Machine.execOraAbsY op16 s
  | .oraAbsX op16 => Sys2Proof.Machine.execOraAbsX op16 s
  | .eorIndX op8 => Sys2Proof.Machine.execEorIndX op8 s
  | .eorZp op8 => Sys2Proof.Machine.execEorZp op8 s
  | .eorImm op8 => Sys2Proof.Machine.execEorImm op8 s
  | .eorAbs op16 => Sys2Proof.Machine.execEorAbs op16 s
  | .eorIndY op8 => Sys2Proof.Machine.execEorIndY op8 s
  | .eorZpX op8 => Sys2Proof.Machine.execEorZpX op8 s
  | .eorAbsY op16 => Sys2Proof.Machine.execEorAbsY op16 s
  | .eorAbsX op16 => Sys2Proof.Machine.execEorAbsX op16 s
  | .bitZp op8 => Sys2Proof.Machine.execBitZp op8 s
  | .bitAbs op16 => Sys2Proof.Machine.execBitAbs op16 s
  | .aslZp op8 => Sys2Proof.Machine.execAslZp op8 s
  | .aslAcc => Sys2Proof.Machine.execAslAcc s
  | .aslAbs op16 => Sys2Proof.Machine.execAslAbs op16 s
  | .aslZpX op8 => Sys2Proof.Machine.execAslZpX op8 s
  | .aslAbsX op16 => Sys2Proof.Machine.execAslAbsX op16 s
  | .lsrZp op8 => Sys2Proof.Machine.execLsrZp op8 s
  | .lsrAcc => Sys2Proof.Machine.execLsrAcc s
  | .lsrAbs op16 => Sys2Proof.Machine.execLsrAbs op16 s
  | .lsrZpX op8 => Sys2Proof.Machine.execLsrZpX op8 s
  | .lsrAbsX op16 => Sys2Proof.Machine.execLsrAbsX op16 s
  | .rolZp op8 => Sys2Proof.Machine.execRolZp op8 s
  | .rolAcc => Sys2Proof.Machine.execRolAcc s
  | .rolAbs op16 => Sys2Proof.Machine.execRolAbs op16 s
  | .rolZpX op8 => Sys2Proof.Machine.execRolZpX op8 s
  | .rolAbsX op16 => Sys2Proof.Machine.execRolAbsX op16 s
  | .rorZp op8 => Sys2Proof.Machine.execRorZp op8 s
  | .rorAcc => Sys2Proof.Machine.execRorAcc s
  | .rorAbs op16 => Sys2Proof.Machine.execRorAbs op16 s
  | .rorZpX op8 => Sys2Proof.Machine.execRorZpX op8 s
  | .rorAbsX op16 => Sys2Proof.Machine.execRorAbsX op16 s
  | .bpl op8 => Sys2Proof.Machine.execBpl op8 s
  | .bmi op8 => Sys2Proof.Machine.execBmi op8 s
  | .bvc op8 => Sys2Proof.Machine.execBvc op8 s
  | .bvs op8 => Sys2Proof.Machine.execBvs op8 s
  | .bcc op8 => Sys2Proof.Machine.execBcc op8 s
  | .bcs op8 => Sys2Proof.Machine.execBcs op8 s
  | .bne op8 => Sys2Proof.Machine.execBne op8 s
  | .beq op8 => Sys2Proof.Machine.execBeq op8 s
  | .jmpAbs op16 => Sys2Proof.Machine.execJmpAbs op16 s
  | .jmpInd op16 => Sys2Proof.Machine.execJmpInd op16 s
  | .jsr op16 => Sys2Proof.Machine.execJsr op16 s
  | .rts => Sys2Proof.Machine.execRts s
  | .brk => Sys2Proof.Machine.execBrk s
  | .rti => Sys2Proof.Machine.execRti s
  | .pha => Sys2Proof.Machine.execPha s
  | .php => Sys2Proof.Machine.execPhp s
  | .pla => Sys2Proof.Machine.execPla s
  | .plp => Sys2Proof.Machine.execPlp s
  | .clc => Sys2Proof.Machine.execClc s
  | .cld => Sys2Proof.Machine.execCld s
  | .cli => Sys2Proof.Machine.execCli s
  | .clv => Sys2Proof.Machine.execClv s
  | .sec => Sys2Proof.Machine.execSec s
  | .sed => Sys2Proof.Machine.execSed s
  | .sei => Sys2Proof.Machine.execSei s
  | .nop => Sys2Proof.Machine.execNop s
  | .nop03 op8 => Sys2Proof.Machine.execNop03 op8 s
  | .nop04 op8 => Sys2Proof.Machine.execNop04 op8 s
  | .nop07 op8 => Sys2Proof.Machine.execNop07 op8 s
  | .nop0B op8 => Sys2Proof.Machine.execNop0B op8 s
  | .nop0C op16 => Sys2Proof.Machine.execNop0C op16 s
  | .nop0F op16 => Sys2Proof.Machine.execNop0F op16 s
  | .nop13 op8 => Sys2Proof.Machine.execNop13 op8 s
  | .nop14 op8 => Sys2Proof.Machine.execNop14 op8 s
  | .nop17 op8 => Sys2Proof.Machine.execNop17 op8 s
  | .nop1A => Sys2Proof.Machine.execNop1A s
  | .nop1B op16 => Sys2Proof.Machine.execNop1B op16 s
  | .nop1C op16 => Sys2Proof.Machine.execNop1C op16 s
  | .nop1F op16 => Sys2Proof.Machine.execNop1F op16 s
  | .nop23 op8 => Sys2Proof.Machine.execNop23 op8 s
  | .nop27 op8 => Sys2Proof.Machine.execNop27 op8 s
  | .nop2B op8 => Sys2Proof.Machine.execNop2B op8 s
  | .nop2F op16 => Sys2Proof.Machine.execNop2F op16 s
  | .nop33 op8 => Sys2Proof.Machine.execNop33 op8 s
  | .nop34 op8 => Sys2Proof.Machine.execNop34 op8 s
  | .nop37 op8 => Sys2Proof.Machine.execNop37 op8 s
  | .nop3A => Sys2Proof.Machine.execNop3A s
  | .nop3B op16 => Sys2Proof.Machine.execNop3B op16 s
  | .nop3C op16 => Sys2Proof.Machine.execNop3C op16 s
  | .nop3F op16 => Sys2Proof.Machine.execNop3F op16 s
  | .nop43 op8 => Sys2Proof.Machine.execNop43 op8 s
  | .nop44 op8 => Sys2Proof.Machine.execNop44 op8 s
  | .nop47 op8 => Sys2Proof.Machine.execNop47 op8 s
  | .nop4B op8 => Sys2Proof.Machine.execNop4B op8 s
  | .nop4F op16 => Sys2Proof.Machine.execNop4F op16 s
  | .nop53 op8 => Sys2Proof.Machine.execNop53 op8 s
  | .nop54 op8 => Sys2Proof.Machine.execNop54 op8 s
  | .nop57 op8 => Sys2Proof.Machine.execNop57 op8 s
  | .nop5A => Sys2Proof.Machine.execNop5A s
  | .nop5B op16 => Sys2Proof.Machine.execNop5B op16 s
  | .nop5C op16 => Sys2Proof.Machine.execNop5C op16 s
  | .nop5F op16 => Sys2Proof.Machine.execNop5F op16 s
  | .nop63 op8 => Sys2Proof.Machine.execNop63 op8 s
  | .nop64 op8 => Sys2Proof.Machine.execNop64 op8 s
  | .nop67 op8 => Sys2Proof.Machine.execNop67 op8 s
  | .nop6B op8 => Sys2Proof.Machine.execNop6B op8 s
  | .nop6F op16 => Sys2Proof.Machine.execNop6F op16 s
  | .nop73 op8 => Sys2Proof.Machine.execNop73 op8 s
  | .nop74 op8 => Sys2Proof.Machine.execNop74 op8 s
  | .nop77 op8 => Sys2Proof.Machine.execNop77 op8 s
  | .nop7A => Sys2Proof.Machine.execNop7A s
  | .nop7B op16 => Sys2Proof.Machine.execNop7B op16 s
  | .nop7C op16 => Sys2Proof.Machine.execNop7C op16 s
  | .nop7F op16 => Sys2Proof.Machine.execNop7F op16 s
  | .nop80 op8 => Sys2Proof.Machine.execNop80 op8 s
  | .nop82 op8 => Sys2Proof.Machine.execNop82 op8 s
  | .nop83 op8 => Sys2Proof.Machine.execNop83 op8 s
  | .nop87 op8 => Sys2Proof.Machine.execNop87 op8 s
  | .nop89 op8 => Sys2Proof.Machine.execNop89 op8 s
  | .nop8B op8 => Sys2Proof.Machine.execNop8B op8 s
  | .nop8F op16 => Sys2Proof.Machine.execNop8F op16 s
  | .nop93 op8 => Sys2Proof.Machine.execNop93 op8 s
  | .nop97 op8 => Sys2Proof.Machine.execNop97 op8 s
  | .nop9B op16 => Sys2Proof.Machine.execNop9B op16 s
  | .nop9C op16 => Sys2Proof.Machine.execNop9C op16 s
  | .nop9E op16 => Sys2Proof.Machine.execNop9E op16 s
  | .nop9F op16 => Sys2Proof.Machine.execNop9F op16 s
  | .nopA3 op8 => Sys2Proof.Machine.execNopA3 op8 s
  | .nopA7 op8 => Sys2Proof.Machine.execNopA7 op8 s
  | .nopAB op8 => Sys2Proof.Machine.execNopAB op8 s
  | .nopAF op16 => Sys2Proof.Machine.execNopAF op16 s
  | .nopB3 op8 => Sys2Proof.Machine.execNopB3 op8 s
  | .nopB7 op8 => Sys2Proof.Machine.execNopB7 op8 s
  | .nopBB op16 => Sys2Proof.Machine.execNopBB op16 s
  | .nopBF op16 => Sys2Proof.Machine.execNopBF op16 s
  | .nopC2 op8 => Sys2Proof.Machine.execNopC2 op8 s
  | .nopC3 op8 => Sys2Proof.Machine.execNopC3 op8 s
  | .nopC7 op8 => Sys2Proof.Machine.execNopC7 op8 s
  | .nopCB op8 => Sys2Proof.Machine.execNopCB op8 s
  | .nopCF op16 => Sys2Proof.Machine.execNopCF op16 s
  | .nopD3 op8 => Sys2Proof.Machine.execNopD3 op8 s
  | .nopD4 op8 => Sys2Proof.Machine.execNopD4 op8 s
  | .nopD7 op8 => Sys2Proof.Machine.execNopD7 op8 s
  | .nopDA => Sys2Proof.Machine.execNopDA s
  | .nopDB op16 => Sys2Proof.Machine.execNopDB op16 s
  | .nopDC op16 => Sys2Proof.Machine.execNopDC op16 s
  | .nopDF op16 => Sys2Proof.Machine.execNopDF op16 s
  | .nopE2 op8 => Sys2Proof.Machine.execNopE2 op8 s
  | .nopE3 op8 => Sys2Proof.Machine.execNopE3 op8 s
  | .nopE7 op8 => Sys2Proof.Machine.execNopE7 op8 s
  | .nopEB op8 => Sys2Proof.Machine.execNopEB op8 s
  | .nopEF op16 => Sys2Proof.Machine.execNopEF op16 s
  | .nopF3 op8 => Sys2Proof.Machine.execNopF3 op8 s
  | .nopF4 op8 => Sys2Proof.Machine.execNopF4 op8 s
  | .nopF7 op8 => Sys2Proof.Machine.execNopF7 op8 s
  | .nopFA => Sys2Proof.Machine.execNopFA s
  | .nopFB op16 => Sys2Proof.Machine.execNopFB op16 s
  | .nopFC op16 => Sys2Proof.Machine.execNopFC op16 s
  | .nopFF op16 => Sys2Proof.Machine.execNopFF op16 s
  | .kil02 => Sys2Proof.Machine.execKil02 s
  | .kil12 => Sys2Proof.Machine.execKil12 s
  | .kil22 => Sys2Proof.Machine.execKil22 s
  | .kil32 => Sys2Proof.Machine.execKil32 s
  | .kil42 => Sys2Proof.Machine.execKil42 s
  | .kil52 => Sys2Proof.Machine.execKil52 s
  | .kil62 => Sys2Proof.Machine.execKil62 s
  | .kil72 => Sys2Proof.Machine.execKil72 s
  | .kil92 => Sys2Proof.Machine.execKil92 s
  | .kilB2 => Sys2Proof.Machine.execKilB2 s
  | .kilD2 => Sys2Proof.Machine.execKilD2 s
  | .kilF2 => Sys2Proof.Machine.execKilF2 s

end Sys2Proof.Machine
end

