-- ==== Sys2Proof/Machine/Fetch.lean ====
section
/-! DEFINITION. Fetching an instruction through the bus (40_engine.md R87 to R89) and placing one where it will be fetched. -/

namespace Sys2Proof.Machine

/-- The operand byte after the opcode: a bus read, but for an instruction that does not read its immediate operand (NOP), where
no access is made (40_engine.md R89) and the term only records the byte that stands there (log 6). -/
def State.fetchOperand (s : State) (e : Entry) : Byte × State :=
  if e.op = .nop ∧ e.mode = .imm then (s.peek (s.pc + 1#16), s) else s.busRead (s.pc + 1#16)

/-- The instruction at PC and the state its fetch leaves: opcode, then operand bytes, in increasing address order
(20_memory.md R63). PC is not moved. -/
def State.fetch (s : State) : Instr × State :=
  let (opcode, s1) := s.busRead s.pc
  let e := table opcode
  match e.mode.operandBytes with
  | 0 => (build opcode 0#8 0#8, s1)
  | 1 =>
    let (b1, s2) := s1.fetchOperand e
    (build opcode b1 0#8, s2)
  | _ =>
    let (w, s2) := s1.readWord (s1.pc + 1#16)
    (build opcode (loByte w) (hiByte w), s2)

/-- Addresses at which a byte can be placed for the fetch to read: RAM, and the ROM and RAM of a plain board. -/
def State.placeable (s : State) (a : Addr) : Bool :=
  match route a, s.cart with
  | .ram _, _ => true
  | .cart, .board _ _ => decide (0x6000 ≤ a.toNat)
  | _, _ => false

/-- Place a byte at a placeable address, from outside the machine: no bus write. -/
def State.place (s : State) (a : Addr) (v : Byte) : State :=
  match route a, s.cart with
  | .ram k, _ => s.setRam (Memory.write s.ram k v)
  | .cart, .board rom ram =>
    if 0x8000 ≤ a.toNat then s.setCart (.board (Memory.write rom a.toNat v) ram)
    else s.setCart (.board rom (Memory.write ram a.toNat v))
  | _, _ => s

/-- Place three bytes at PC. Where they cannot stand there (a cartridge that is no plain board, the stubs, the
picture-generator window), PC is moved to $0000 first. -/
def State.placeCode (s : State) (b0 b1 b2 : Byte) : State :=
  let ok := s.placeable s.pc && s.placeable (s.pc + 1#16) && s.placeable (s.pc + 2#16)
  let s1 := if ok then s else s.setPc 0#16
  ((s1.place s1.pc b0).place (s1.pc + 1#16) b1).place (s1.pc + 2#16) b2

end Sys2Proof.Machine
end

