-- ==== Sys2Proof/Machine/Step.lean ====
section
/-! DEFINITION. One step: one instruction boundary. -/

namespace Sys2Proof.Machine

/-- `Boundary()`: take the pending request of highest priority, else fetch and execute one instruction (60_exceptions.md R175,
40_engine.md R86). -/
def step (s : State) : Host.Outcome State Fault Refusal :=
  match s.takeRequest with
  | some t => .next t
  | none =>
    let (i, s1) := s.fetch
    exec i s1

/-- The state with an instruction where the next step fetches it (log 9): its bytes at PC, and no request that the step would
take first. -/
def State.withFetchWord (s : State) (nbits w : Nat) : State :=
  let v := w % 2 ^ nbits
  let s1 := s.placeCode (BitVec.ofNat 8 v) (BitVec.ofNat 8 (v / 0x100)) (BitVec.ofNat 8 (v / 0x10000))
  ((s1.setResetReq false).setNmiPending false).setIrqLine (s.irqLine && s.flag .i)

end Sys2Proof.Machine
end

