-- ==== Sys2Proof/Machine/Driver.lean ====
section
/-! DEFINITION. Construction, and what the host may do at an instruction boundary (70_reset_and_hazards.md R196, 40_engine.md R106
to R109). -/

namespace Sys2Proof.Machine

/-- The constructed core, before any RESET (70_reset_and_hazards.md R196, 10_state.md R37). A, X, Y, P and PC are unspecified:
arguments. -/
def State.construct (params : Config.Params) (cart : Cart) (a x y p : Byte) (pc : Addr) : State :=
  { State.reset with a := a, x := x, y := y, sp := params.spPowerOn, p := p, pc := pc, cart := cart, params := params }

/-- The host requests RESET (60_exceptions.md R178). -/
def State.requestReset (s : State) : State := s.setResetReq true

/-- The host requests an NMI (60_exceptions.md R176): a latched edge. -/
def State.requestNmi (s : State) : State := s.setNmiPending true

/-- The host or a device drives the IRQ line (60_exceptions.md R177). -/
def State.driveIrq (s : State) (level : Bool) : State := s.setIrqLine level

/-- The host swaps the cartridge (20_memory.md R69). -/
def State.swapCart (s : State) (c : Cart) : State := s.setCart c

/-- The host lays down the picture generator's coming answers (U5; log 1). -/
def State.layAnswers (s : State) (bs : List Byte) : State := s.setPpu { s.ppu with answers := s.ppu.answers ++ bs }

/-- `while tick < frameEnd: Boundary()` (40_engine.md R106), at most `fuel` boundaries. -/
def runBoundaries : Nat → State → Result
  | 0, s => .next s
  | fuel + 1, s =>
    if (s.tick : Rat) < s.frame.frameEnd then
      match step s with
      | .next t => runBoundaries fuel t
      | .fault r => .fault r
      | .refused r => .refused r
    else .next s

/-- Boundaries enough for any frame: each adds a cycle at least, but for one RESET (70_reset_and_hazards.md R205, R209). -/
def frameFuel (s : State) : Nat := (s.frame.frameEnd.ceil - (s.tick : Int)).toNat + 1

/-- `RunFrame()` with the budget TICKS_PER_FRAME as an argument (40_engine.md R106, R107, D18; log 8). -/
def runFrame (ticksPerFrame : Rat) (s : State) : Result :=
  if s.frame.busy then .next s
  else
    let s1 := s.setFrame { frameEnd := s.frame.frameEnd + ticksPerFrame, busy := true }
    match runBoundaries (frameFuel s1) s1 with
    | .next t => .next (t.setFrame { t.frame with busy := false })
    | .fault r => .fault r
    | .refused r => .refused r

end Sys2Proof.Machine
end

