-- ==== Sys2Proof/Safety.lean ====
section
/-! DEFINITION. The terms the claims use: the invariant of a state, the frame of an instruction, and the spec's names for what an
instruction's table row and operand give (00_scope.md R9). -/

namespace Sys2Proof.Machine

/-! ### The invariant -/

/-- A cartridge whose memories, if it is a plain board, are in canonical form and in range (92_eei_decisions.md D29). -/
def Cart.wf : Cart → Bool
  | .null | .external _ _ => true
  | .board rom ram =>
    Memory.wf rom && Memory.within 0x8000 0x10000 rom && (Memory.wf ram && Memory.within 0x6000 0x8000 ram)

/-- RAM and the cartridge's memories are in canonical form, and RAM has the 2,048 cells of 10_state.md R30. -/
def State.Inv (s : State) : Bool := Memory.wf s.ram && Memory.within 0 0x800 s.ram && s.cart.wf

/-- The step answers a next state: the machine neither faults nor refuses. -/
def State.Goes (s : State) : Prop := ∃ t, step s = .next t

/-! ### Frames -/

/-- The picture-generator window (20_memory.md R46): the only addresses whose reads have an effect (R54). -/
def inWindow (a : Addr) : Bool := decide (0x2000 ≤ a.toNat) && decide (a.toNat < 0x4000)

/-- Two addresses of one RAM cell (20_memory.md R45). -/
def sameRamCell (a b : Addr) : Bool :=
  decide (a.toNat < 0x2000) && decide (b.toNat < 0x2000) && (a &&& 0x07FF#16) == (b &&& 0x07FF#16)

/-- Every flag of P but the listed ones is unchanged. -/
def FlagsKept (s t : State) (written : List Flag) : Prop := ∀ f, f ∉ written → t.flag f = s.flag f

/-- Memory is unchanged: RAM, the cartridge, and what a read of any address outside the window answers. -/
def MemoryKept (s t : State) : Prop :=
  t.ram = s.ram ∧ t.cart = s.cart ∧ ∀ b, inWindow b = false → t.peek b = s.peek b

/-- The request inputs, the parameters and the frame driver's variables are unchanged. -/
def InputsKept (s t : State) : Prop :=
  t.resetReq = s.resetReq ∧ t.nmiPending = s.nmiPending ∧ t.irqLine = s.irqLine ∧ t.params = s.params ∧ t.frame = s.frame

/-- The values of A, X, Y and SP. -/
def RegsAre (t : State) (a x y sp : Byte) : Prop := t.a = a ∧ t.x = x ∧ t.y = y ∧ t.sp = sp

/-- Z and N are those of a result `v` (10_state.md R28). -/
def ZNof (t : State) (v : Byte) : Prop := t.flag .z = decide (v.toNat = 0) ∧ t.flag .n = decide (128 ≤ v.toNat)

/-- What pushing `bytes`, the first of them first, leaves: SP lower by their number (wrapping), each byte at the SP it was
pushed with, and every other address outside the window as before (20_memory.md R55, R57). -/
def Pushed (s t : State) (bytes : List Byte) : Prop :=
  t.sp = s.sp - BitVec.ofNat 8 bytes.length ∧ t.cart = s.cart ∧ t.ppu = s.ppu ∧
  (∀ k, k < bytes.length → t.peek (stackAddr (s.sp - BitVec.ofNat 8 (k + 1))) = bytes.getD k 0#8) ∧
  ∀ b, inWindow b = false → (∀ k, k < bytes.length → sameRamCell (stackAddr (s.sp - BitVec.ofNat 8 (k + 1))) b = false) →
    t.peek b = s.peek b

/-- What `MemWrite(a, 1, v)` leaves of memory and of the picture generator, region by region and seen through reads
(20_memory.md R44 to R49). Outside the stored cell every address reads as before, but in the window and, for a store to cartridge
space, in the space of a cartridge that is neither null nor a plain board, where that cartridge decides (R47, log 2). -/
def Stored (s t : State) (a : Addr) (v : Byte) : Prop :=
  (a.toNat < 0x2000 → t.cart = s.cart ∧ t.ppu = s.ppu ∧
    ∀ b, inWindow b = false → t.peek b = if sameRamCell a b then v else s.peek b) ∧
  (inWindow a = true → t.ram = s.ram ∧ t.cart = s.cart ∧ t.ppu = s.ppu.write ((a &&& 0x0007#16).setWidth 3) v ∧
    ∀ b, inWindow b = false → t.peek b = s.peek b) ∧
  (a = 0x4014#16 → t.ram = s.ram ∧ t.cart = s.cart ∧ t.ppu = (s.oamDma v).ppu ∧
    ∀ b, inWindow b = false → t.peek b = s.peek b) ∧
  (0x4000 ≤ a.toNat → a.toNat < 0x4018 → a ≠ 0x4014#16 → t.ram = s.ram ∧ t.cart = s.cart ∧ t.ppu = s.ppu ∧
    ∀ b, t.peek b = s.peek b) ∧
  (0x4018 ≤ a.toNat → t.ram = s.ram ∧ t.cart = s.cart.write a v ∧ t.ppu = s.ppu ∧
    (∀ b, b.toNat < 0x4018 → t.peek b = s.peek b) ∧
    ((∀ id ws, s.cart ≠ .external id ws) → ∀ b, b ≠ a → t.peek b = s.peek b))

/-! ### What an instruction's row and operand give -/

/-- `Resolve(mode, PC0)` of an instruction (40_engine.md R92). -/
def State.resolved (s : State) (i : Instr) : Resolved := s.resolve i.entry.mode i.operand

/-- `MemRead(EA, 1)` of an instruction that reads its operand, or A for the sentinel. -/
def State.operandByte (s : State) (i : Instr) : Byte := ((s.resolved i).state.readOperand (s.resolved i).ea).1

/-- The state after the resolver's reads and the operand's read: it differs from `s` in the picture generator alone. -/
def State.afterOperand (s : State) (i : Instr) : State := ((s.resolved i).state.readOperand (s.resolved i).ea).2

/-- `wrap16(PC0 + Length(mode))` (40_engine.md R90). -/
def State.nextPc (s : State) (i : Instr) : Addr := s.pc + BitVec.ofNat 16 i.entry.mode.length

/-- `base + ((pen and cross) ? 1 : 0)` (40_engine.md R86). -/
def State.cost (s : State) (i : Instr) : Nat := i.entry.base + if i.entry.pen && (s.resolved i).cross then 1 else 0

/-- What every instruction leaves that at most reads its operand: memory, the inputs, PC past the instruction and the cost of
its row. Only the read of an operand in the window shows, in the picture generator. -/
def ReadFrame (s t : State) (i : Instr) : Prop :=
  MemoryKept s t ∧ t.ppu = (s.afterOperand i).ppu ∧ InputsKept s t ∧ t.pc = s.nextPc i ∧ t.tick = s.tick + s.cost i

/-- The opcodes that the page-cross cycle is charged by, row by row as 70_reset_and_hazards.md R206 lists them. -/
def pageCrossOpcodes : List Byte :=
  [0x1D#8, 0x19#8, 0x11#8, 0x3D#8, 0x39#8, 0x31#8, 0x5D#8, 0x59#8, 0x51#8, 0x7D#8, 0x79#8, 0x71#8, 0xBD#8, 0xB9#8, 0xB1#8,
   0xDD#8, 0xD9#8, 0xD1#8, 0xFD#8, 0xF9#8, 0xF1#8] ++ [0xBE#8] ++ [0xBC#8] ++
  [0x1C#8, 0x3C#8, 0x5C#8, 0x7C#8, 0xDC#8, 0xFC#8] ++ [0xB3#8, 0xBF#8] ++ [0xBB#8]

/-- Cycles of the DMA that a write of address `a` starts, `t0` being `tick` at the instruction's start (20_memory.md R49). -/
def dmaCycles (t0 : Nat) (a : Addr) : Nat := if a = 0x4014#16 then 513 + t0 % 2 else 0

/-- The address an instruction resolves to, if it resolves to one. -/
def EA.address? : EA → Option Addr
  | .implied => none
  | .imm a _ => some a
  | .mem a => some a

/-- Whether a branch is taken under the flags of `s` (44_control_flow.md R146 to R153); false for any other operation. -/
def State.takes (s : State) (o : Op) : Bool :=
  match o with
  | .bpl => !s.flag .n
  | .bmi => s.flag .n
  | .bvc => !s.flag .v
  | .bvs => s.flag .v
  | .bcc => !s.flag .c
  | .bcs => s.flag .c
  | .bne => !s.flag .z
  | .beq => s.flag .z
  | _ => false

/-- The operations that write their memory operand (40_engine.md R91: classes write and read-modify-write). -/
def writesOperand (o : Op) : Bool :=
  [Op.sta, .stx, .sty, .inc, .dec, .asl, .lsr, .rol, .ror].contains o

/-- The result, as a number, and the new carry of a shift (43_logic_shift.md R141 to R144). -/
def shifted (o : Op) (v : Byte) (c : Bool) : Nat × Bool :=
  match o with
  | .asl => (2 * v.toNat % 256, decide (128 ≤ v.toNat))
  | .lsr => (v.toNat / 2, decide (v.toNat % 2 = 1))
  | .rol => ((2 * v.toNat + c.toNat) % 256, decide (128 ≤ v.toNat))
  | .ror => (v.toNat / 2 + 128 * c.toNat, decide (v.toNat % 2 = 1))
  | _ => (v.toNat, c)

/-- What a store of `v` at the address an instruction resolves to leaves, read-modify-write included: `u` is the state after
its operand reads (`s` itself for a store). -/
def StoreFrame (s u t : State) (i : Instr) (v : Byte) : Prop :=
  InputsKept s t ∧ t.pc = s.nextPc i ∧ ∃ a, (s.resolved i).ea = .mem a ∧ Stored u t a v ∧
    t.tick = s.tick + s.cost i + dmaCycles s.tick a

/-- `signed8(v)` (00_scope.md R8). -/
def signed8 (v : Byte) : Int := if v.toNat < 128 then v.toNat else (v.toNat : Int) - 256

end Sys2Proof.Machine
end

