-- ==== Sys2Proof/WellFormed.lean ====
section
/-! DEFINITION. Well-formedness. An `Instr` is well-formed when its bytes are one complete instruction: the opcode's row asks
for exactly the operand bytes the term carries (30_encoding.md R72). A list of bytes is a complete instruction under the
same two checks the decoder makes. Operands are typed by width and every operand value is legal (R76, R81), so no check
on a value exists. -/

namespace Sys2Proof

/-- The first check: there is an opcode byte. -/
def hasOpcode (bs : List Byte) : Bool := !bs.isEmpty

/-- The second check: exactly as many operand bytes as the opcode's addressing mode consumes (30_encoding.md R72). -/
def hasOperands (bs : List Byte) : Bool := bs.length == (table (bs.headD 0#8)).mode.length

/-- A list of bytes that is one whole instruction. -/
def codeWellFormed (bs : List Byte) : Bool := hasOpcode bs && hasOperands bs

/-- An instruction whose bytes are one whole instruction. By the widths of the operands every term of `Instr` is. -/
def Instr.wellFormed (i : Instr) : Bool := codeWellFormed (encode i)

end Sys2Proof
end

