-- ==== Sys2Proof/Certificates/Slice0/Obligations.lean ====
section
/-! DEFINITION. The statements for the provers. A list of pairs (opcode, instruction) names every form of a mnemonic, with the
opcode the spec gives it. -/

open Sys2Proof Sys2Proof.Machine

/-! ### Encoding -/

/-- Decoding the bytes of any instruction, whatever follows them, gives the instruction and the bytes that follow: no operand
bit is dropped (30_encoding.md R70 to R74). -/
def Obligations.DecodeOfEncodeGivesBack : Prop :=
  ∀ (i : Instr) (rest : List Byte), i.wellFormed = true ∧ decode (encode i ++ rest) = .ok i rest

/-- What the decoder reads is exactly what was there: each word has one meaning. -/
def Obligations.EncodeOfDecodeGivesBack : Prop :=
  ∀ (bs rest : List Byte) (i : Instr), decode bs = .ok i rest → encode i ++ rest = bs

/-- R76: the decoder is total. Bytes are rejected only when the opcode or an operand byte is missing, and the first byte alone
says how many bytes an instruction has. -/
def Obligations.DecoderRejectsOnlyMissingBytes : Prop :=
  (∀ bs : List Byte, (∃ e, decode bs = .rejected e) ↔ bs = [] ∨ bs.length < (table (bs.headD 0#8)).mode.length) ∧
  ∀ (opcode b1 b2 : Byte) (rest : List Byte), ∃ i,
    decode (opcode :: b1 :: b2 :: rest) = .ok i ((b1 :: b2 :: rest).drop (table opcode).mode.operandBytes) ∧ i.opcode = opcode

/-- Words spelled out from the spec's encodings (R78, R79, the examples of R84) decode to the instructions they stand for. -/
def Obligations.SpelledOutWordsDecode : Prop :=
  decode [0xA9#8, 0x00#8] = .ok (.ldaImm 0x00) [] ∧ decode [0xA5#8, 0x10#8] = .ok (.ldaZp 0x10) [] ∧
  decode [0xB5#8, 0x10#8] = .ok (.ldaZpX 0x10) [] ∧ decode [0xB6#8, 0x10#8] = .ok (.ldxZpY 0x10) [] ∧
  decode [0xAD#8, 0x34#8, 0x12#8] = .ok (.ldaAbs 0x1234) [] ∧ decode [0xBD#8, 0x34#8, 0x12#8] = .ok (.ldaAbsX 0x1234) [] ∧
  decode [0xB9#8, 0x34#8, 0x12#8] = .ok (.ldaAbsY 0x1234) [] ∧ decode [0x6C#8, 0x00#8, 0x02#8] = .ok (.jmpInd 0x0200) [] ∧
  decode [0xA1#8, 0x20#8] = .ok (.ldaIndX 0x20) [] ∧ decode [0xB1#8, 0x20#8] = .ok (.ldaIndY 0x20) [] ∧
  decode [0xD0#8, 0xF9#8] = .ok (.bne 0xF9) [] ∧ decode [0x0A#8] = .ok .aslAcc [] ∧ decode [0x18#8] = .ok .clc [] ∧
  decode [0x00#8] = .ok .brk [] ∧ decode [0x02#8] = .ok .kil02 [] ∧ decode [0x04#8, 0x10#8] = .ok (.nop04 0x10) [] ∧
  decode [0xEB#8, 0x01#8] = .ok (.nopEB 0x01) [] ∧ decode [0x69#8, 0x50#8] = .ok (.adcImm 0x50) [] ∧
  decode [0x8D#8, 0x14#8, 0x40#8] = .ok (.staAbs 0x4014) [] ∧ decode [0x48#8] = .ok .pha []

/-- R206: the page-cross cycle is charged by the 32 listed opcodes and by no other. One of the 32 costs its base and, when the
indexing crosses a page, one cycle more; the cost of any other opcode ignores `cross`. The list, read as instructions and modes,
is the starred cells of the cycle table. -/
def Obligations.PageCrossCycleIsChargedByTheListedOpcodes : Prop :=
  ∀ (i : Instr) (s : State),
    (i.opcode ∈ pageCrossOpcodes ↔
      (i.entry.op ∈ [Op.ora, .and, .eor, .adc, .lda, .cmp, .sbc] ∧ i.entry.mode ∈ [Mode.absX, .absY, .indY]) ∨
      (i.entry.op = .ldx ∧ i.entry.mode = .absY) ∨ (i.entry.op = .ldy ∧ i.entry.mode = .absX) ∨
      i.opcode ∈ [0x1C#8, 0x3C#8, 0x5C#8, 0x7C#8, 0xDC#8, 0xFC#8, 0xB3#8, 0xBF#8, 0xBB#8]) ∧
    (i.entry.pen = true ↔ i.opcode ∈ pageCrossOpcodes) ∧
    ∃ t, exec i s = .next t ∧
      (i.opcode ∈ pageCrossOpcodes → t.tick = s.tick + i.entry.base + (if (s.resolved i).cross = true then 1 else 0)) ∧
      (i.opcode ∉ pageCrossOpcodes → t.tick = s.tick + i.entry.base
        + (if s.takes i.entry.op = true then 1 else 0)
        + (if s.takes i.entry.op = true ∧ hiByte (s.nextPc i) ≠ hiByte t.pc then 1 else 0)
        + (if writesOperand i.entry.op = true ∧ (s.resolved i).ea = .mem 0x4014#16 then 513 + s.tick % 2 else 0))

/-! ### The step -/

/-- R86, R87, R89: at a boundary with no request to take, a step is `exec` of the instruction that the bytes at PC decode to, read
through the bus in increasing address order. Outside the picture-generator window the reads leave the state as it is. The
immediate operand of a NOP is not read. -/
def Obligations.StepRunsTheDecodedInstruction : Prop :=
  ∀ s : State, s.resetReq = false → s.nmiPending = false → (s.irqLine = false ∨ s.flag .i = true) →
    (∀ i rest, inWindow s.pc = false → inWindow (s.pc + 1#16) = false → inWindow (s.pc + 2#16) = false →
      decode [s.peek s.pc, s.peek (s.pc + 1#16), s.peek (s.pc + 2#16)] = .ok i rest → step s = exec i s) ∧
    ((table (s.peek s.pc)).mode.operandBytes = 0 → ∃ i,
      decode [s.peek s.pc] = .ok i [] ∧ step s = exec i (s.afterRead s.pc)) ∧
    ((table (s.peek s.pc)).mode.operandBytes = 1 → ∃ i,
      decode [s.peek s.pc, (s.afterRead s.pc).peek (s.pc + 1#16)] = .ok i [] ∧
      step s = exec i (if i.entry.op = .nop ∧ i.entry.mode = .imm then s.afterRead s.pc
        else (s.afterRead s.pc).afterRead (s.pc + 1#16))) ∧
    ((table (s.peek s.pc)).mode.operandBytes = 2 → ∃ i,
      decode [s.peek s.pc, (s.afterRead s.pc).peek (s.pc + 1#16),
        ((s.afterRead s.pc).afterRead (s.pc + 1#16)).peek (s.pc + 2#16)] = .ok i [] ∧
      step s = exec i (((s.afterRead s.pc).afterRead (s.pc + 1#16)).afterRead (s.pc + 2#16)))

/-- From every state a step answers a next state, and so does every number of steps. That nothing faults or refuses is the model's
reading of R173 (log 15, DEDUCED). -/
def Obligations.MachineNeverStops : Prop :=
  (∀ s : State, s.Goes) ∧ ∀ (n : Nat) (s : State), ∃ t : State, Sys2Proof.core.run n s = .next t

/-- RAM and the cartridge's memories stay in canonical form and in range (R30, R36; the form is the model's, logs 2 and 14), from
every state that has them so. -/
def Obligations.StepKeepsMemoryCanonical : Prop :=
  ∀ s : State, s.Inv = true → ∃ t, step s = .next t ∧ t.Inv = true

/-- The state after reset meets the invariant (the form is the model's, log 14). -/
def Obligations.ResetMemoryIsCanonical : Prop := State.reset.Inv = true

/-- The canonical form, the model's (log 14), is canonical: two memories that read alike are equal. -/
def Obligations.CanonicalMemoriesThatReadAlikeAreEqual : Prop :=
  ∀ m n : Memory, Memory.wf m = true → Memory.wf n = true → (∀ k, Memory.read m k = Memory.read n k) → m = n

/-- R32: after any step both latched requests are taken or were never there, and the IRQ line is as it was driven; no step changes
the open parameters or the frame driver's variables. -/
def Obligations.StepLeavesHostInputsToTheHost : Prop :=
  ∀ s : State, ∃ t, step s = .next t ∧ t.irqLine = s.irqLine ∧ t.resetReq = false ∧ t.nmiPending = false ∧
    t.params = s.params ∧ t.frame = s.frame

/-- R204: no register, flag or memory result of a step depends on `tick`; two states that differ in `tick` alone step to states
that differ in `tick` alone. -/
def Obligations.CycleCounterInfluencesNothing : Prop :=
  ∀ (s : State) (n : Nat), ∃ t m, step s = .next t ∧ step (s.setTick n) = .next (t.setTick m)

/-- A step adds at least two cycles, but for a RESET request, which adds none (R183, R205). -/
def Obligations.EveryBoundaryButResetTakesCycles : Prop :=
  ∀ s : State, ∃ t, step s = .next t ∧ (s.resetReq = true → t.tick = s.tick) ∧ (s.resetReq = false → s.tick + 2 ≤ t.tick)

/-- R205: the cycles of every instruction: base, page cross, taken branch, branch to another page, DMA. -/
def Obligations.InstructionCycleAccounting : Prop :=
  ∀ (i : Instr) (s : State), ∃ t, exec i s = .next t ∧
    t.tick = s.tick + i.entry.base
      + (if i.entry.pen = true ∧ (s.resolved i).cross = true then 1 else 0)
      + (if s.takes i.entry.op = true then 1 else 0)
      + (if s.takes i.entry.op = true ∧ hiByte (s.nextPc i) ≠ hiByte t.pc then 1 else 0)
      + (if writesOperand i.entry.op = true ∧ (s.resolved i).ea = .mem 0x4014#16 then 513 + s.tick % 2 else 0)

/-! ### RESET, NMI and IRQ -/

/-- R196, R197: from construction, whatever the unspecified registers hold, the power-on RESET gives the launch state; with the
default parameters and the null cartridge that is `State.reset` (log 3). -/
def Obligations.PowerOnResetGivesLaunchState : Prop :=
  ∀ (params : Config.Params) (cart : Cart) (a x y p : Byte) (pc : Addr),
    (∃ t, step (State.construct params cart a x y p pc).requestReset = .next t ∧
      RegsAre t 0#8 0#8 0#8 (params.spPowerOn - 3#8) ∧ t.p = 0x34#8 ∧
      t.pc = wordOf (cart.read 0xFFFC#16) (cart.read 0xFFFD#16) ∧ (∀ b, b.toNat < 0x2000 → t.peek b = 0#8) ∧ t.tick = 0 ∧
      t.resetReq = false ∧ t.nmiPending = false ∧ t.irqLine = false ∧ t.cart = cart) ∧
    step (State.construct .default .null a x y p pc).requestReset = .next State.reset

/-- R175, R179: a RESET request is taken before any other. A, X, Y, P, SP, PC and the two requests change; nothing else does. -/
def Obligations.ResetRequestIsTakenFirst : Prop :=
  ∀ s : State, s.resetReq = true → step s = .next { s with
    a := 0#8, x := 0#8, y := 0#8, p := 0x34#8, sp := s.sp - 3#8,
    pc := wordOf (s.cart.read 0xFFFC#16) (s.cart.read 0xFFFD#16), resetReq := false, nmiPending := false }

/-- R180, R182, R183: a pending NMI is taken whatever I holds, when no RESET is requested. -/
def Obligations.NmiEntry : Prop :=
  ∀ s : State, s.resetReq = false → s.nmiPending = true → ∃ t, step s = .next t ∧
    Pushed s t [hiByte s.pc, loByte s.pc, s.p &&& 0xEF#8] ∧ t.a = s.a ∧ t.x = s.x ∧ t.y = s.y ∧ t.p = s.p ||| 0x04#8 ∧
    t.pc = wordOf (s.cart.read 0xFFFA#16) (s.cart.read 0xFFFB#16) ∧ t.tick = s.tick + 7 ∧ t.resetReq = false ∧
    t.nmiPending = false ∧ t.irqLine = s.irqLine ∧ t.params = s.params ∧ t.frame = s.frame

/-- R181, R182, R183: the IRQ level is taken when I is clear and no RESET or NMI is requested. -/
def Obligations.IrqEntry : Prop :=
  ∀ s : State, s.resetReq = false → s.nmiPending = false → s.irqLine = true → s.flag .i = false → ∃ t, step s = .next t ∧
    Pushed s t [hiByte s.pc, loByte s.pc, s.p &&& 0xEF#8] ∧ t.a = s.a ∧ t.x = s.x ∧ t.y = s.y ∧ t.p = s.p ||| 0x04#8 ∧
    t.pc = wordOf (s.cart.read 0xFFFE#16) (s.cart.read 0xFFFF#16) ∧ t.tick = s.tick + 7 ∧ InputsKept s t

/-- R200: CLI with the IRQ line asserted enters IRQ at the boundary that follows it, before the next instruction; SEI blocks an
IRQ at the boundary after it. -/
def Obligations.InterruptDisableCountsAtTheNextBoundary : Prop :=
  ∀ s : State, s.resetReq = false → s.nmiPending = false → s.irqLine = true →
    (∃ t u, exec .cli s = .next t ∧ step t = .next u ∧
      Pushed t u [hiByte (s.pc + 1#16), loByte (s.pc + 1#16), t.p &&& 0xEF#8] ∧
      u.pc = wordOf (s.cart.read 0xFFFE#16) (s.cart.read 0xFFFF#16)) ∧
    (∃ t, exec .sei s = .next t ∧ step t = exec t.fetch.1 t.fetch.2)

/-- R185, R186: RTI after an NMI or IRQ entry resumes at the instruction the entry put off, with SP as it was and P as it was but
for B, which is 0; after BRK it resumes at the byte after the opcode, with B 1. -/
def Obligations.RtiUndoesAnEntry : Prop :=
  ∀ s : State,
    (s.resetReq = false → s.nmiPending = true ∨ (s.irqLine = true ∧ s.flag .i = false) →
      ∃ t u, step s = .next t ∧ exec .rti t = .next u ∧ u.pc = s.pc ∧ u.p = s.p &&& 0xEF#8 ∧ RegsAre u s.a s.x s.y s.sp) ∧
    (∃ t u, exec .brk s = .next t ∧ exec .rti t = .next u ∧ u.pc = s.pc + 1#16 ∧ u.p = s.p ||| 0x10#8 ∧
      RegsAre u s.a s.x s.y s.sp)

/-! ### The frame driver -/

/-- R106 as the model runs it: a frame runs whole boundaries while `tick` is below the running frame end, and then stops; the frame
end carries the remainder forward. The bounded loop, and that the host does not act inside a frame, are the model's choice
(log 8); the budget is an argument, since TICKS_PER_FRAME has no default (log 5). -/
def Obligations.RunFrameRunsUntilTheBudgetIsSpent : Prop :=
  ∀ (budget : Rat) (s : State), s.frame.busy = false → ∃ (t u : State) (n : Nat),
    runFrame budget s = .next t ∧ t.frame = { frameEnd := s.frame.frameEnd + budget, busy := false } ∧
    t.frame.frameEnd ≤ (t.tick : Rat) ∧
    Sys2Proof.core.run n (s.setFrame { frameEnd := s.frame.frameEnd + budget, busy := true }) = .next u ∧
    t = u.setFrame t.frame ∧
    ∀ k, k < n → ∃ v : State,
      Sys2Proof.core.run k (s.setFrame { frameEnd := s.frame.frameEnd + budget, busy := true }) = .next v ∧
      (v.tick : Rat) < s.frame.frameEnd + budget

/-- R107: a nested RunFrame returns at once and changes nothing. -/
def Obligations.NestedRunFrameIsANoOp : Prop :=
  ∀ (budget : Rat) (s : State), s.frame.busy = true → runFrame budget s = .next s

/-! ### What each register and flag can be written by -/

/-- R13: A, X, Y and SP are written by the listed instructions alone (KIL is the RESET of the list). -/
def Obligations.RegistersHaveOnlyTheListedWriters : Prop :=
  ∀ (i : Instr) (s : State), ∃ t, exec i s = .next t ∧
    (i.entry.op ∉ [Op.lda, .pla, .txa, .tya, .adc, .sbc, .and, .ora, .eor, .kil] →
      ¬ (i.entry.op ∈ [Op.asl, .lsr, .rol, .ror] ∧ i.entry.mode = .acc) → t.a = s.a) ∧
    (i.entry.op ∉ [Op.ldx, .tax, .tsx, .inx, .dex, .kil] → t.x = s.x) ∧
    (i.entry.op ∉ [Op.ldy, .tay, .iny, .dey, .kil] → t.y = s.y) ∧
    (i.entry.op ∉ [Op.txs, .pha, .php, .pla, .plp, .jsr, .rts, .brk, .rti, .kil] → t.sp = s.sp)

/-- R20 to R27, R29: each flag is written by the listed instructions alone. -/
def Obligations.FlagsHaveOnlyTheListedWriters : Prop :=
  ∀ (i : Instr) (s : State), ∃ t, exec i s = .next t ∧
    (i.entry.op ∉ [Op.adc, .sbc, .cmp, .cpx, .cpy, .asl, .lsr, .rol, .ror, .clc, .sec, .plp, .rti, .kil] →
      t.flag .c = s.flag .c) ∧
    (i.entry.op ∉ [Op.lda, .ldx, .ldy, .tax, .tay, .txa, .tya, .tsx, .adc, .sbc, .cmp, .cpx, .cpy, .inc, .dec, .inx, .iny, .dex,
        .dey, .and, .ora, .eor, .bit, .asl, .lsr, .rol, .ror, .pla, .plp, .rti, .kil] →
      t.flag .z = s.flag .z ∧ t.flag .n = s.flag .n) ∧
    (i.entry.op ∉ [Op.sei, .cli, .plp, .rti, .brk, .kil] → t.flag .i = s.flag .i) ∧
    (i.entry.op ∉ [Op.sed, .cld, .plp, .rti, .kil] → t.flag .d = s.flag .d) ∧
    (i.entry.op ∉ [Op.plp, .rti, .kil] → t.flag .b = s.flag .b ∧ t.flag .u = s.flag .u) ∧
    (i.entry.op ∉ [Op.adc, .sbc, .bit, .clv, .plp, .rti, .kil] → t.flag .v = s.flag .v)

/-- R23, R24, R25: D, B and U gate nothing. Flip one of them before an instruction that neither pushes nor loads P (nor writes D),
and everything after it is the same but for that bit. -/
def Obligations.DecimalBreakAndUnusedGateNothing : Prop :=
  ∀ (i : Instr) (s : State) (f : Flag) (v : Bool), f ∈ [Flag.d, .b, .u] →
    i.entry.op ∉ [Op.php, .brk, .plp, .rti, .kil, .cld, .sed] →
    ∃ t, exec i s = .next t ∧ exec i (s.setFlag f v) = .next (t.setFlag f v)

/-! ### The bus and the stack -/

/-- R45: a write through any mirror of a RAM cell is read back through every mirror, and no other cell changes. -/
def Obligations.RamMirrorsShareOneCell : Prop :=
  ∀ (s : State) (a b : Addr) (v : Byte), a.toNat < 0x2000 → b.toNat < 0x2000 →
    (s.busWrite a v).peek b = if a.toNat % 0x800 = b.toNat % 0x800 then v else s.peek b

/-- R44: what a byte write leaves, for every address; it never writes a register, the inputs or the parameters, and adds cycles
only at $4014. -/
def Obligations.ByteWriteEffectByRegion : Prop :=
  ∀ (s : State) (a : Addr) (v : Byte), Stored s (s.busWrite a v) a v ∧
    (s.busWrite a v).tick = s.tick + dmaCycles s.tick a ∧ RegsAre (s.busWrite a v) s.a s.x s.y s.sp ∧
    (s.busWrite a v).p = s.p ∧ (s.busWrite a v).pc = s.pc ∧ InputsKept s (s.busWrite a v)

/-- R47, R69: cartridge space belongs to the attached cartridge; its reads have no effect; the null cartridge answers 0 and
discards writes; after a swap the next access reaches the new one. The plain board (log 2) keeps what is written to its
RAM and nothing else. -/
def Obligations.CartridgeContract : Prop :=
  ∀ (s : State) (a : Addr) (v : Byte) (c : Cart), 0x4018 ≤ a.toNat →
    s.busRead a = (s.cart.read a, s) ∧ s.busWrite a v = { s with cart := s.cart.write a v } ∧
    Cart.null.read a = 0#8 ∧ Cart.null.write a v = .null ∧ (s.swapCart c).busRead a = (c.read a, s.swapCart c) ∧
    ∀ (rom ram : Memory) (b : Addr), ((Cart.board rom ram).write a v).read b =
      if a = b ∧ 0x6000 ≤ a.toNat ∧ a.toNat < 0x8000 then v else (Cart.board rom ram).read b

/-- R48: a read of $4000 to $4017 answers 0 and has no effect; a write there is discarded, but at $4014. -/
def Obligations.StubsReadZeroAndDiscardWrites : Prop :=
  ∀ (s : State) (a : Addr) (v : Byte), 0x4000 ≤ a.toNat → a.toNat < 0x4018 →
    s.busRead a = (0#8, s) ∧ (a ≠ 0x4014#16 → s.busWrite a v = s)

/-- R46: the window passes register number `a & 7` to the picture generator, with the byte for a write. A read answers what has
been laid down, else a free value, whatever it is (log 1), and shows in the picture generator's state alone. -/
def Obligations.PictureGeneratorWindow : Prop :=
  ∀ (s : State) (a : Addr) (v : Byte), 0x2000 ≤ a.toNat → a.toNat < 0x4000 →
    (s.busWrite a v = { s with ppu := { s.ppu with log := .write (BitVec.ofNat 3 a.toNat) v :: s.ppu.log } }) ∧
    (s.busRead a).2 = { s with ppu := (s.busRead a).2.ppu } ∧
    (s.busRead a).2.ppu.log = .read (BitVec.ofNat 3 a.toNat) (s.busRead a).1 :: s.ppu.log ∧
    (∀ b rest, s.ppu.answers = b :: rest → (s.busRead a).1 = b ∧ (s.busRead a).2.ppu.answers = rest)

/-- R49: a write of $4014 passes the 256 bytes of page `v`, read through the bus in increasing order, to the picture generator and
costs 513 cycles when `tick` is even and 514 when odd. For a page outside the window the bytes are those that stand there;
for a page of the window each is a read of its register. -/
def Obligations.OamDmaCopiesAPage : Prop :=
  ∀ (s : State) (v : Byte), ∃ bytes : List Byte, bytes.length = 256 ∧
    (s.busWrite 0x4014#16 v) = { s with
      ppu := (s.busWrite 0x4014#16 v).ppu, tick := s.tick + 513 + s.tick % 2 } ∧
    ((v.toNat < 0x20 ∨ 0x40 ≤ v.toNat) →
      (s.busWrite 0x4014#16 v).ppu = { s.ppu with log := .oamBurst bytes :: s.ppu.log } ∧
      ∀ k, k < 256 → bytes.getD k 0#8 = s.peek (BitVec.ofNat 16 (256 * v.toNat + k))) ∧
    (0x20 ≤ v.toNat → v.toNat < 0x40 →
      (s.busWrite 0x4014#16 v).ppu.log =
        .oamBurst bytes :: (bytes.mapIdx fun k b => PpuEvent.read (BitVec.ofNat 3 k) b).reverse ++ s.ppu.log ∧
      ∀ k, k < s.ppu.answers.length → k < 256 → bytes.getD k 0#8 = s.ppu.answers.getD k 0#8)

/-- R50: a word read is `low + high * 256`, two byte reads, low byte first, the high byte at the next address, wrapping from $FFFF to
$0000; outside the window it has no effect. -/
def Obligations.WordReadIsTwoByteReadsLowByteFirst : Prop :=
  ∀ (s : State) (a : Addr),
    let low := s.busRead a
    let high := low.2.busRead (BitVec.ofNat 16 ((a.toNat + 1) % 65536))
    (s.readWord a).1.toNat = low.1.toNat + 256 * high.1.toNat ∧ (s.readWord a).2 = high.2 ∧
    (inWindow a = false → inWindow (a + 1#16) = false → high.1 = s.peek (a + 1#16) ∧ high.2 = s)

/-- R55 to R59: a push lands at the decremented SP and is what the next pull answers, with SP restored, at every SP; so is a
word. -/
def Obligations.PullAnswersThePush : Prop :=
  ∀ (s : State) (v : Byte) (w : Addr), Pushed s (s.push v) [v] ∧ (s.push v).pull.1 = v ∧ (s.push v).pull.2.sp = s.sp ∧
    Pushed s (s.pushWord w) [hiByte w, loByte w] ∧ (s.pushWord w).pullWord.1 = w ∧ (s.pushWord w).pullWord.2.sp = s.sp ∧
    (s.sp = 0#8 → (s.push v).sp = 0xFF#8 ∧ (s.push v).peek 0x01FF#16 = v)

/-! ### The resolver -/

/-- R93 to R98: the sentinel, the relative target, the immediate address and the zero-page modes, which never leave page 0. -/
def Obligations.ResolverModesWithoutCarry : Prop :=
  ∀ (s : State) (op8 : Byte),
    s.resolve .imp (zext16 op8) = ⟨.implied, false, s⟩ ∧ s.resolve .acc (zext16 op8) = ⟨.implied, false, s⟩ ∧
    s.resolve .imm (zext16 op8) = ⟨.imm (BitVec.ofNat 16 ((s.pc.toNat + 1) % 65536)) op8, false, s⟩ ∧
    s.resolve .rel (zext16 op8) = ⟨.mem (BitVec.ofInt 16 ((s.pc.toNat : Int) + 2 + signed8 op8)), false, s⟩ ∧
    s.resolve .zp (zext16 op8) = ⟨.mem (BitVec.ofNat 16 op8.toNat), false, s⟩ ∧
    s.resolve .zpX (zext16 op8) = ⟨.mem (BitVec.ofNat 16 ((op8.toNat + s.x.toNat) % 256)), false, s⟩ ∧
    s.resolve .zpY (zext16 op8) = ⟨.mem (BitVec.ofNat 16 ((op8.toNat + s.y.toNat) % 256)), false, s⟩

/-- R99 to R101: absolute modes; indexing carries into the high byte and wraps at $FFFF, and the page is crossed exactly when the
high byte of EA differs from the base's (glossary, R12). -/
def Obligations.ResolverAbsoluteModes : Prop :=
  ∀ (s : State) (w : Addr), s.resolve .abs w = ⟨.mem w, false, s⟩ ∧
    (∃ ea cross, s.resolve .absX w = ⟨.mem ea, cross, s⟩ ∧ ea.toNat = (w.toNat + s.x.toNat) % 65536 ∧
      cross = decide (0xFF < w.toNat % 256 + s.x.toNat) ∧ (cross = true ↔ hiByte ea ≠ hiByte w)) ∧
    (∃ ea cross, s.resolve .absY w = ⟨.mem ea, cross, s⟩ ∧ ea.toNat = (w.toNat + s.y.toNat) % 65536 ∧
      cross = decide (0xFF < w.toNat % 256 + s.y.toNat) ∧ (cross = true ↔ hiByte ea ≠ hiByte w))

/-- R103, R104: the pointer modes, under both settings of ZP_PTR_WRAP. The pointer's high byte is read from the next zero-page
address, or from $0100 for a pointer at $FF when the parameter is false. -/
def Obligations.ResolverPointerModes : Prop :=
  ∀ (s : State) (op8 : Byte),
    let next (z : Nat) : Nat := if s.params.zpPtrWrap then (z + 1) % 256 else z + 1
    let ptr (z : Nat) : Nat := (s.peek (BitVec.ofNat 16 z)).toNat + 256 * (s.peek (BitVec.ofNat 16 (next z))).toNat
    s.resolve .indX (zext16 op8) = ⟨.mem (BitVec.ofNat 16 (ptr ((op8.toNat + s.x.toNat) % 256))), false, s⟩ ∧
    s.resolve .indY (zext16 op8) =
      ⟨.mem (BitVec.ofNat 16 (ptr op8.toNat + s.y.toNat)), decide (0xFF < ptr op8.toNat % 256 + s.y.toNat), s⟩

/-! ### Loads, stores and transfers -/

/-- R110 to R112: a load puts its operand in its register and sets Z and N from it; nothing else changes. -/
def Obligations.LoadsPutTheOperandInTheirRegister : Prop :=
  ∀ (op8 : Byte) (op16 : Addr) (s : State),
    (∀ r ∈ [(0xA1#8, Instr.ldaIndX op8), (0xA5#8, .ldaZp op8), (0xA9#8, .ldaImm op8), (0xAD#8, .ldaAbs op16),
        (0xB1#8, .ldaIndY op8), (0xB5#8, .ldaZpX op8), (0xB9#8, .ldaAbsY op16), (0xBD#8, .ldaAbsX op16)],
      r.2.opcode = r.1 ∧ ∃ t, exec r.2 s = .next t ∧ RegsAre t (s.operandByte r.2) s.x s.y s.sp ∧
        ZNof t (s.operandByte r.2) ∧ FlagsKept s t [.z, .n] ∧ ReadFrame s t r.2) ∧
    (∀ r ∈ [(0xA2#8, Instr.ldxImm op8), (0xA6#8, .ldxZp op8), (0xAE#8, .ldxAbs op16), (0xB6#8, .ldxZpY op8),
        (0xBE#8, .ldxAbsY op16)],
      r.2.opcode = r.1 ∧ ∃ t, exec r.2 s = .next t ∧ RegsAre t s.a (s.operandByte r.2) s.y s.sp ∧
        ZNof t (s.operandByte r.2) ∧ FlagsKept s t [.z, .n] ∧ ReadFrame s t r.2) ∧
    (∀ r ∈ [(0xA0#8, Instr.ldyImm op8), (0xA4#8, .ldyZp op8), (0xAC#8, .ldyAbs op16), (0xB4#8, .ldyZpX op8),
        (0xBC#8, .ldyAbsX op16)],
      r.2.opcode = r.1 ∧ ∃ t, exec r.2 s = .next t ∧ RegsAre t s.a s.x (s.operandByte r.2) s.sp ∧
        ZNof t (s.operandByte r.2) ∧ FlagsKept s t [.z, .n] ∧ ReadFrame s t r.2)

/-- R113 to R115: a store writes its register at the address the resolver gives, and no flag or register. -/
def Obligations.StoresWriteTheirRegisterAtEA : Prop :=
  ∀ (op8 : Byte) (op16 : Addr) (s : State),
    (∀ r ∈ [(0x81#8, Instr.staIndX op8), (0x85#8, .staZp op8), (0x8D#8, .staAbs op16), (0x91#8, .staIndY op8),
        (0x95#8, .staZpX op8), (0x99#8, .staAbsY op16), (0x9D#8, .staAbsX op16)],
      r.2.opcode = r.1 ∧ ∃ t, exec r.2 s = .next t ∧ RegsAre t s.a s.x s.y s.sp ∧ FlagsKept s t [] ∧ StoreFrame s s t r.2 s.a) ∧
    (∀ r ∈ [(0x86#8, Instr.stxZp op8), (0x8E#8, .stxAbs op16), (0x96#8, .stxZpY op8)],
      r.2.opcode = r.1 ∧ ∃ t, exec r.2 s = .next t ∧ RegsAre t s.a s.x s.y s.sp ∧ FlagsKept s t [] ∧ StoreFrame s s t r.2 s.x) ∧
    (∀ r ∈ [(0x84#8, Instr.styZp op8), (0x8C#8, .styAbs op16), (0x94#8, .styZpX op8)],
      r.2.opcode = r.1 ∧ ∃ t, exec r.2 s = .next t ∧ RegsAre t s.a s.x s.y s.sp ∧ FlagsKept s t [] ∧ StoreFrame s s t r.2 s.y)

/-- R116 to R121: the transfers; all but TXS set Z and N from what they copy. -/
def Obligations.TransfersCopyAndSetZN : Prop :=
  ∀ s : State,
    (∀ r ∈ [(0xAA#8, Instr.tax, (s.a, s.a, s.y), s.a), (0xA8#8, .tay, (s.a, s.x, s.a), s.a), (0x8A#8, .txa, (s.x, s.x, s.y), s.x),
        (0x98#8, .tya, (s.y, s.x, s.y), s.y), (0xBA#8, .tsx, (s.a, s.sp, s.y), s.sp)],
      r.2.1.opcode = r.1 ∧ ∃ t, exec r.2.1 s = .next t ∧ RegsAre t r.2.2.1.1 r.2.2.1.2.1 r.2.2.1.2.2 s.sp ∧ ZNof t r.2.2.2 ∧
        FlagsKept s t [.z, .n] ∧ ReadFrame s t r.2.1) ∧
    (Instr.txs.opcode = 0x9A#8 ∧ ∃ t, exec .txs s = .next t ∧ RegsAre t s.a s.x s.y s.x ∧ FlagsKept s t [] ∧
      ReadFrame s t .txs)

/-! ### Arithmetic and logic -/

/-- R123, R124: ADC adds A, the operand and the carry. V is set when both operands agreed in sign and the result disagrees. -/
def Obligations.AdcAddsWithCarry : Prop :=
  ∀ (op8 : Byte) (op16 : Addr) (s : State),
    ∀ r ∈ [(0x61#8, Instr.adcIndX op8), (0x65#8, .adcZp op8), (0x69#8, .adcImm op8), (0x6D#8, .adcAbs op16),
        (0x71#8, .adcIndY op8), (0x75#8, .adcZpX op8), (0x79#8, .adcAbsY op16), (0x7D#8, .adcAbsX op16)],
      let m := s.operandByte r.2
      let sum := s.a.toNat + m.toNat + (s.flag .c).toNat
      r.2.opcode = r.1 ∧ ∃ t, exec r.2 s = .next t ∧ RegsAre t (BitVec.ofNat 8 sum) s.x s.y s.sp ∧
        t.flag .c = decide (0xFF < sum) ∧ t.flag .v = (s.a.msb == m.msb && t.a.msb != s.a.msb) ∧ ZNof t t.a ∧
        FlagsKept s t [.n, .v, .z, .c] ∧ ReadFrame s t r.2

/-- R125: SBC subtracts the operand and the borrow: `A - m - (1 - C)`, with C = 1 after exactly when that is not negative. -/
def Obligations.SbcSubtractsWithBorrow : Prop :=
  ∀ (op8 : Byte) (op16 : Addr) (s : State),
    ∀ r ∈ [(0xE1#8, Instr.sbcIndX op8), (0xE5#8, .sbcZp op8), (0xE9#8, .sbcImm op8), (0xED#8, .sbcAbs op16),
        (0xF1#8, .sbcIndY op8), (0xF5#8, .sbcZpX op8), (0xF9#8, .sbcAbsY op16), (0xFD#8, .sbcAbsX op16)],
      let m := s.operandByte r.2
      let diff : Int := s.a.toNat - m.toNat - (1 - (s.flag .c).toNat)
      r.2.opcode = r.1 ∧ ∃ t, exec r.2 s = .next t ∧ RegsAre t (BitVec.ofInt 8 diff) s.x s.y s.sp ∧
        t.flag .c = decide (0 ≤ diff) ∧ t.flag .v = (s.a.msb != m.msb && t.a.msb != s.a.msb) ∧ ZNof t t.a ∧
        FlagsKept s t [.n, .v, .z, .c] ∧ ReadFrame s t r.2

/-- R122: V reports signed overflow of ADC and SBC: it is set exactly when the signed result does not fit in a byte, and when it
is clear A holds the signed result. -/
def Obligations.OverflowFlagIsSignedOverflow : Prop :=
  ∀ (s : State) (m : Byte),
    let add : Int := signed8 s.a + signed8 m + (s.flag .c).toNat
    let sub : Int := signed8 s.a - signed8 m - (1 - (s.flag .c).toNat)
    (∃ t, exec (.adcImm m) s = .next t ∧ t.flag .v = decide (add < -128 ∨ 127 < add) ∧ (t.flag .v = false → signed8 t.a = add)) ∧
    (∃ t, exec (.sbcImm m) s = .next t ∧ t.flag .v = decide (sub < -128 ∨ 127 < sub) ∧ (t.flag .v = false → signed8 t.a = sub))

/-- R126 to R129: a comparison sets C, Z and N from `r - m` and writes nothing else. -/
def Obligations.ComparesSetFlagsFromTheDifference : Prop :=
  ∀ (op8 : Byte) (op16 : Addr) (s : State),
    (∀ r ∈ [(0xC1#8, Instr.cmpIndX op8), (0xC5#8, .cmpZp op8), (0xC9#8, .cmpImm op8), (0xCD#8, .cmpAbs op16),
        (0xD1#8, .cmpIndY op8), (0xD5#8, .cmpZpX op8), (0xD9#8, .cmpAbsY op16), (0xDD#8, .cmpAbsX op16)],
      r.2.opcode = r.1 ∧ ∃ t, exec r.2 s = .next t ∧ RegsAre t s.a s.x s.y s.sp ∧
        t.flag .c = decide ((s.operandByte r.2).toNat ≤ s.a.toNat) ∧ ZNof t (s.a - s.operandByte r.2) ∧
        FlagsKept s t [.n, .z, .c] ∧ ReadFrame s t r.2) ∧
    (∀ r ∈ [(0xE0#8, Instr.cpxImm op8), (0xE4#8, .cpxZp op8), (0xEC#8, .cpxAbs op16)],
      r.2.opcode = r.1 ∧ ∃ t, exec r.2 s = .next t ∧ RegsAre t s.a s.x s.y s.sp ∧
        t.flag .c = decide ((s.operandByte r.2).toNat ≤ s.x.toNat) ∧ ZNof t (s.x - s.operandByte r.2) ∧
        FlagsKept s t [.n, .z, .c] ∧ ReadFrame s t r.2) ∧
    (∀ r ∈ [(0xC0#8, Instr.cpyImm op8), (0xC4#8, .cpyZp op8), (0xCC#8, .cpyAbs op16)],
      r.2.opcode = r.1 ∧ ∃ t, exec r.2 s = .next t ∧ RegsAre t s.a s.x s.y s.sp ∧
        t.flag .c = decide ((s.operandByte r.2).toNat ≤ s.y.toNat) ∧ ZNof t (s.y - s.operandByte r.2) ∧
        FlagsKept s t [.n, .z, .c] ∧ ReadFrame s t r.2)

/-- R130, R131: INC and DEC read their byte once, write it once, changed by one modulo 256, and set Z and N from it. -/
def Obligations.IncDecChangeMemoryByOne : Prop :=
  ∀ (op8 : Byte) (op16 : Addr) (s : State),
    (∀ r ∈ [(0xE6#8, Instr.incZp op8), (0xEE#8, .incAbs op16), (0xF6#8, .incZpX op8), (0xFE#8, .incAbsX op16)],
      let v := BitVec.ofNat 8 ((s.operandByte r.2).toNat + 1)
      r.2.opcode = r.1 ∧ ∃ t, exec r.2 s = .next t ∧ RegsAre t s.a s.x s.y s.sp ∧ ZNof t v ∧ FlagsKept s t [.z, .n] ∧
        StoreFrame s (s.afterOperand r.2) t r.2 v) ∧
    (∀ r ∈ [(0xC6#8, Instr.decZp op8), (0xCE#8, .decAbs op16), (0xD6#8, .decZpX op8), (0xDE#8, .decAbsX op16)],
      let v := BitVec.ofNat 8 ((s.operandByte r.2).toNat + 255)
      r.2.opcode = r.1 ∧ ∃ t, exec r.2 s = .next t ∧ RegsAre t s.a s.x s.y s.sp ∧ ZNof t v ∧ FlagsKept s t [.z, .n] ∧
        StoreFrame s (s.afterOperand r.2) t r.2 v)

/-- R132 to R135: INX, INY, DEX and DEY change their register by one modulo 256 and set Z and N from it. -/
def Obligations.IndexRegistersChangeByOne : Prop :=
  ∀ s : State, ∀ r ∈ [(0xE8#8, Instr.inx, BitVec.ofNat 8 (s.x.toNat + 1), s.y), (0xCA#8, .dex, BitVec.ofNat 8 (s.x.toNat + 255), s.y),
      (0xC8#8, .iny, s.x, BitVec.ofNat 8 (s.y.toNat + 1)), (0x88#8, .dey, s.x, BitVec.ofNat 8 (s.y.toNat + 255))],
    r.2.1.opcode = r.1 ∧ ∃ t, exec r.2.1 s = .next t ∧ RegsAre t s.a r.2.2.1 r.2.2.2 s.sp ∧
      ZNof t (if r.2.1 = .inx ∨ r.2.1 = .dex then t.x else t.y) ∧ FlagsKept s t [.z, .n] ∧ ReadFrame s t r.2.1

/-- R136 to R138: AND, ORA and EOR work bit by bit into A and set Z and N from it. -/
def Obligations.LogicalOperationsWorkBitByBit : Prop :=
  ∀ (op8 : Byte) (op16 : Addr) (s : State),
    (∀ r ∈ [(0x21#8, Instr.andIndX op8), (0x25#8, .andZp op8), (0x29#8, .andImm op8), (0x2D#8, .andAbs op16),
        (0x31#8, .andIndY op8), (0x35#8, .andZpX op8), (0x39#8, .andAbsY op16), (0x3D#8, .andAbsX op16)],
      r.2.opcode = r.1 ∧ ∃ t, exec r.2 s = .next t ∧ RegsAre t t.a s.x s.y s.sp ∧
        (∀ k, t.a.getLsbD k = (s.a.getLsbD k && (s.operandByte r.2).getLsbD k)) ∧ ZNof t t.a ∧ FlagsKept s t [.z, .n] ∧
        ReadFrame s t r.2) ∧
    (∀ r ∈ [(0x01#8, Instr.oraIndX op8), (0x05#8, .oraZp op8), (0x09#8, .oraImm op8), (0x0D#8, .oraAbs op16),
        (0x11#8, .oraIndY op8), (0x15#8, .oraZpX op8), (0x19#8, .oraAbsY op16), (0x1D#8, .oraAbsX op16)],
      r.2.opcode = r.1 ∧ ∃ t, exec r.2 s = .next t ∧ RegsAre t t.a s.x s.y s.sp ∧
        (∀ k, t.a.getLsbD k = (s.a.getLsbD k || (s.operandByte r.2).getLsbD k)) ∧ ZNof t t.a ∧ FlagsKept s t [.z, .n] ∧
        ReadFrame s t r.2) ∧
    (∀ r ∈ [(0x41#8, Instr.eorIndX op8), (0x45#8, .eorZp op8), (0x49#8, .eorImm op8), (0x4D#8, .eorAbs op16),
        (0x51#8, .eorIndY op8), (0x55#8, .eorZpX op8), (0x59#8, .eorAbsY op16), (0x5D#8, .eorAbsX op16)],
      r.2.opcode = r.1 ∧ ∃ t, exec r.2 s = .next t ∧ RegsAre t t.a s.x s.y s.sp ∧
        (∀ k, t.a.getLsbD k = (s.a.getLsbD k != (s.operandByte r.2).getLsbD k)) ∧ ZNof t t.a ∧ FlagsKept s t [.z, .n] ∧
        ReadFrame s t r.2)

/-- R139: BIT sets Z from `A & m`, and N and V from bits 7 and 6 of `m`, whatever A holds; A is not written. -/
def Obligations.BitTestsWithoutWriting : Prop :=
  ∀ (op8 : Byte) (op16 : Addr) (s : State),
    ∀ r ∈ [(0x24#8, Instr.bitZp op8), (0x2C#8, .bitAbs op16)],
      r.2.opcode = r.1 ∧ ∃ t, exec r.2 s = .next t ∧ RegsAre t s.a s.x s.y s.sp ∧
        (t.flag .z = true ↔ ∀ k, ¬ (s.a.getLsbD k = true ∧ (s.operandByte r.2).getLsbD k = true)) ∧
        t.flag .n = (s.operandByte r.2).getLsbD 7 ∧ t.flag .v = (s.operandByte r.2).getLsbD 6 ∧
        FlagsKept s t [.z, .n, .v] ∧ ReadFrame s t r.2

/-- R140 to R144: the shifts and rotates of A (mode ACC), and of memory: one read and one write of the address the resolver gives.
C receives the bit shifted out, the old carry the vacated bit of ROL and ROR; Z and N come from the result. -/
def Obligations.ShiftsAndRotates : Prop :=
  ∀ (op8 : Byte) (op16 : Addr) (s : State),
    (∀ r ∈ [(0x0A#8, Instr.aslAcc, Op.asl), (0x4A#8, .lsrAcc, .lsr), (0x2A#8, .rolAcc, .rol), (0x6A#8, .rorAcc, .ror)],
      let q := shifted r.2.2 s.a (s.flag .c)
      r.2.1.opcode = r.1 ∧ ∃ t, exec r.2.1 s = .next t ∧ RegsAre t (BitVec.ofNat 8 q.1) s.x s.y s.sp ∧ t.flag .c = q.2 ∧
        ZNof t (BitVec.ofNat 8 q.1) ∧ FlagsKept s t [.c, .z, .n] ∧ ReadFrame s t r.2.1) ∧
    (∀ r ∈ [(0x06#8, Instr.aslZp op8), (0x0E#8, .aslAbs op16), (0x16#8, .aslZpX op8), (0x1E#8, .aslAbsX op16),
        (0x46#8, .lsrZp op8), (0x4E#8, .lsrAbs op16), (0x56#8, .lsrZpX op8), (0x5E#8, .lsrAbsX op16),
        (0x26#8, .rolZp op8), (0x2E#8, .rolAbs op16), (0x36#8, .rolZpX op8), (0x3E#8, .rolAbsX op16),
        (0x66#8, .rorZp op8), (0x6E#8, .rorAbs op16), (0x76#8, .rorZpX op8), (0x7E#8, .rorAbsX op16)],
      let q := shifted r.2.entry.op (s.operandByte r.2) (s.flag .c)
      r.2.opcode = r.1 ∧ ∃ t, exec r.2 s = .next t ∧ RegsAre t s.a s.x s.y s.sp ∧ t.flag .c = q.2 ∧
        ZNof t (BitVec.ofNat 8 q.1) ∧ FlagsKept s t [.c, .z, .n] ∧
        StoreFrame s (s.afterOperand r.2) t r.2 (BitVec.ofNat 8 q.1))

/-! ### Control flow -/

/-- R145 to R153: a taken branch goes to `PC0 + 2 + signed8(op8)` and costs 3, or 4 to another page than the next instruction's; a
branch not taken costs 2. Nothing else changes. -/
def Obligations.BranchesTestOneFlag : Prop :=
  ∀ (op8 : Byte) (s : State),
    ∀ r ∈ [(0x10#8, Instr.bpl op8, s.flag .n = false), (0x30#8, .bmi op8, s.flag .n = true), (0x50#8, .bvc op8, s.flag .v = false),
        (0x70#8, .bvs op8, s.flag .v = true), (0x90#8, .bcc op8, s.flag .c = false), (0xB0#8, .bcs op8, s.flag .c = true),
        (0xD0#8, .bne op8, s.flag .z = false), (0xF0#8, .beq op8, s.flag .z = true)],
      let target := BitVec.ofInt 16 ((s.pc.toNat : Int) + 2 + signed8 op8)
      r.2.1.opcode = r.1 ∧
      (r.2.2 → exec r.2.1 s = .next { s with
        pc := target, tick := s.tick + if (s.pc + 2#16).toNat / 256 = target.toNat / 256 then 3 else 4 }) ∧
      (¬ r.2.2 → exec r.2.1 s = .next { s with pc := s.pc + 2#16, tick := s.tick + 2 })

/-- R154, R102: JMP goes to its operand, or to the word behind it; the high byte comes from the next address, or from the start of
the same page when JMP_IND_PAGE_BUG is set and the pointer's low byte is $FF. -/
def Obligations.JumpsGoToTheirTarget : Prop :=
  ∀ (op16 : Addr) (s : State),
    let next : Addr := if s.params.jmpIndPageBug = true ∧ op16.toNat % 256 = 255 then BitVec.ofNat 16 (op16.toNat - 255) else op16 + 1#16
    (Instr.jmpAbs op16).opcode = 0x4C#8 ∧ (Instr.jmpInd op16).opcode = 0x6C#8 ∧
    exec (.jmpAbs op16) s = .next { s with pc := op16, tick := s.tick + 3 } ∧
    exec (.jmpInd op16) s = .next { s with
      pc := wordOf (s.peek op16) ((s.afterRead op16).peek next), tick := s.tick + 5,
      ppu := ((s.afterRead op16).afterRead next).ppu }

/-- R155, R156: JSR pushes the address of its own last byte and jumps; RTS goes to one past the pulled word. -/
def Obligations.CallsAndReturns : Prop :=
  ∀ (op16 : Addr) (s : State), (Instr.jsr op16).opcode = 0x20#8 ∧ Instr.rts.opcode = 0x60#8 ∧
    (∃ t, exec (.jsr op16) s = .next t ∧ Pushed s t [hiByte (s.pc + 2#16), loByte (s.pc + 2#16)] ∧ t.pc = op16 ∧ t.a = s.a ∧
      t.x = s.x ∧ t.y = s.y ∧ t.p = s.p ∧ t.tick = s.tick + 6 ∧ InputsKept s t) ∧
    (∃ t, exec .rts s = .next t ∧
      t.pc = wordOf (s.peek (stackAddr s.sp)) (s.peek (stackAddr (s.sp + 1#8))) + 1#16 ∧ RegsAre t s.a s.x s.y (s.sp + 2#8) ∧
      t.p = s.p ∧ MemoryKept s t ∧ t.ppu = s.ppu ∧ t.tick = s.tick + 6 ∧ InputsKept s t)

/-- C8, R155, R156: an RTS that finds the stack as a JSR left it, SP and the two bytes at it, resumes at the instruction after the
JSR with SP restored, whatever else the called code did. -/
def Obligations.RtsReturnsBehindTheJsr : Prop :=
  ∀ (op16 : Addr) (s : State), ∃ t, exec (.jsr op16) s = .next t ∧
    ∀ v : State, v.sp = t.sp → v.peek (stackAddr t.sp) = t.peek (stackAddr t.sp) →
      v.peek (stackAddr (t.sp + 1#8)) = t.peek (stackAddr (t.sp + 1#8)) →
      ∃ u, exec .rts v = .next u ∧ u.pc = s.pc + 3#16 ∧ RegsAre u v.a v.x v.y s.sp ∧ u.p = v.p

/-- R157, R158: BRK pushes PC0 + 1 and P with bit 4 set, sets I and goes through $FFFE, whatever I holds; RTI pulls P verbatim, then
PC. -/
def Obligations.BrkAndRti : Prop :=
  ∀ s : State, Instr.brk.opcode = 0x00#8 ∧ Instr.rti.opcode = 0x40#8 ∧
    (∃ t, exec .brk s = .next t ∧ Pushed s t [hiByte (s.pc + 1#16), loByte (s.pc + 1#16), s.p ||| 0x10#8] ∧ t.p = s.p ||| 0x04#8 ∧
      t.pc = wordOf (s.cart.read 0xFFFE#16) (s.cart.read 0xFFFF#16) ∧ t.a = s.a ∧ t.x = s.x ∧ t.y = s.y ∧
      t.tick = s.tick + 7 ∧ InputsKept s t) ∧
    (∃ t, exec .rti s = .next t ∧ t.p = s.peek (stackAddr s.sp) ∧
      t.pc = wordOf (s.peek (stackAddr (s.sp + 1#8))) (s.peek (stackAddr (s.sp + 2#8))) ∧ RegsAre t s.a s.x s.y (s.sp + 3#8) ∧
      MemoryKept s t ∧ t.ppu = s.ppu ∧ t.tick = s.tick + 6 ∧ InputsKept s t)

/-! ### Stack, flags, NOP and KIL -/

/-- R159 to R162: PHA and PHP push A and P unmodified; PLA sets Z and N from what it pulls, PLP loads P verbatim. -/
def Obligations.StackInstructions : Prop :=
  ∀ s : State,
    (∀ r ∈ [(0x48#8, Instr.pha, s.a), (0x08#8, .php, s.p)],
      r.2.1.opcode = r.1 ∧ ∃ t, exec r.2.1 s = .next t ∧ Pushed s t [r.2.2] ∧ t.a = s.a ∧ t.x = s.x ∧ t.y = s.y ∧ t.p = s.p ∧
        t.pc = s.pc + 1#16 ∧ t.tick = s.tick + 3 ∧ InputsKept s t) ∧
    (Instr.pla.opcode = 0x68#8 ∧ ∃ t, exec .pla s = .next t ∧
      RegsAre t (s.peek (stackAddr s.sp)) s.x s.y (s.sp + 1#8) ∧ ZNof t t.a ∧ FlagsKept s t [.z, .n] ∧ ReadFrame s t .pla) ∧
    (Instr.plp.opcode = 0x28#8 ∧ ∃ t, exec .plp s = .next t ∧ RegsAre t s.a s.x s.y (s.sp + 1#8) ∧
      t.p = s.peek (stackAddr s.sp) ∧ ReadFrame s t .plp)

/-- R163 to R169: each flag instruction writes one flag and nothing else. -/
def Obligations.FlagInstructionsWriteOneFlag : Prop :=
  ∀ s : State, ∀ r ∈ [(0x18#8, Instr.clc, Flag.c, false), (0xD8#8, .cld, .d, false), (0x58#8, .cli, .i, false), (0xB8#8, .clv, .v, false),
      (0x38#8, .sec, .c, true), (0xF8#8, .sed, .d, true), (0x78#8, .sei, .i, true)],
    r.2.1.opcode = r.1 ∧ ∃ t, exec r.2.1 s = .next t ∧ t.flag r.2.2.1 = r.2.2.2 ∧ FlagsKept s t [r.2.2.1] ∧
      RegsAre t s.a s.x s.y s.sp ∧ ReadFrame s t r.2.1

/-- R170, R171: the documented NOP and the 93 undocumented ones change PC and `tick` alone: no access is made at EA. -/
def Obligations.NopsOnlyAdvance : Prop :=
  ∀ (op8 : Byte) (op16 : Addr) (s : State),
    ∀ r ∈ [(0xEA#8, Instr.nop), (0x03#8, .nop03 op8), (0x04#8, .nop04 op8), (0x07#8, .nop07 op8),
        (0x0B#8, .nop0B op8), (0x0C#8, .nop0C op16), (0x0F#8, .nop0F op16), (0x13#8, .nop13 op8),
        (0x14#8, .nop14 op8), (0x17#8, .nop17 op8), (0x1A#8, .nop1A), (0x1B#8, .nop1B op16), (0x1C#8, .nop1C op16),
        (0x1F#8, .nop1F op16), (0x23#8, .nop23 op8), (0x27#8, .nop27 op8), (0x2B#8, .nop2B op8),
        (0x2F#8, .nop2F op16), (0x33#8, .nop33 op8), (0x34#8, .nop34 op8), (0x37#8, .nop37 op8), (0x3A#8, .nop3A),
        (0x3B#8, .nop3B op16), (0x3C#8, .nop3C op16), (0x3F#8, .nop3F op16), (0x43#8, .nop43 op8),
        (0x44#8, .nop44 op8), (0x47#8, .nop47 op8), (0x4B#8, .nop4B op8), (0x4F#8, .nop4F op16),
        (0x53#8, .nop53 op8), (0x54#8, .nop54 op8), (0x57#8, .nop57 op8), (0x5A#8, .nop5A), (0x5B#8, .nop5B op16),
        (0x5C#8, .nop5C op16), (0x5F#8, .nop5F op16), (0x63#8, .nop63 op8), (0x64#8, .nop64 op8),
        (0x67#8, .nop67 op8), (0x6B#8, .nop6B op8), (0x6F#8, .nop6F op16), (0x73#8, .nop73 op8),
        (0x74#8, .nop74 op8), (0x77#8, .nop77 op8), (0x7A#8, .nop7A), (0x7B#8, .nop7B op16), (0x7C#8, .nop7C op16),
        (0x7F#8, .nop7F op16), (0x80#8, .nop80 op8), (0x82#8, .nop82 op8), (0x83#8, .nop83 op8),
        (0x87#8, .nop87 op8), (0x89#8, .nop89 op8), (0x8B#8, .nop8B op8), (0x8F#8, .nop8F op16),
        (0x93#8, .nop93 op8), (0x97#8, .nop97 op8), (0x9B#8, .nop9B op16), (0x9C#8, .nop9C op16),
        (0x9E#8, .nop9E op16), (0x9F#8, .nop9F op16), (0xA3#8, .nopA3 op8), (0xA7#8, .nopA7 op8),
        (0xAB#8, .nopAB op8), (0xAF#8, .nopAF op16), (0xB3#8, .nopB3 op8), (0xB7#8, .nopB7 op8),
        (0xBB#8, .nopBB op16), (0xBF#8, .nopBF op16), (0xC2#8, .nopC2 op8), (0xC3#8, .nopC3 op8),
        (0xC7#8, .nopC7 op8), (0xCB#8, .nopCB op8), (0xCF#8, .nopCF op16), (0xD3#8, .nopD3 op8),
        (0xD4#8, .nopD4 op8), (0xD7#8, .nopD7 op8), (0xDA#8, .nopDA), (0xDB#8, .nopDB op16), (0xDC#8, .nopDC op16),
        (0xDF#8, .nopDF op16), (0xE2#8, .nopE2 op8), (0xE3#8, .nopE3 op8), (0xE7#8, .nopE7 op8),
        (0xEB#8, .nopEB op8), (0xEF#8, .nopEF op16), (0xF3#8, .nopF3 op8), (0xF4#8, .nopF4 op8),
        (0xF7#8, .nopF7 op8), (0xFA#8, .nopFA), (0xFB#8, .nopFB op16), (0xFC#8, .nopFC op16), (0xFF#8, .nopFF op16)],
      r.2.opcode = r.1 ∧ exec r.2 s = .next { s with pc := s.nextPc r.2, tick := s.tick + s.cost r.2 }

/-- R172, R188: each KIL opcode performs the RESET sequence and costs 2 cycles. -/
def Obligations.KilResets : Prop :=
  ∀ (s : State),
    ∀ r ∈ [(0x02#8, Instr.kil02), (0x12#8, .kil12), (0x22#8, .kil22), (0x32#8, .kil32), (0x42#8, .kil42),
        (0x52#8, .kil52), (0x62#8, .kil62), (0x72#8, .kil72), (0x92#8, .kil92), (0xB2#8, .kilB2), (0xD2#8, .kilD2),
        (0xF2#8, .kilF2)],
      r.2.opcode = r.1 ∧ exec r.2 s = .next { s with
        a := 0#8, x := 0#8, y := 0#8, p := 0x34#8, sp := s.sp - 3#8,
        pc := wordOf (s.cart.read 0xFFFC#16) (s.cart.read 0xFFFD#16), resetReq := false, nmiPending := false, tick := s.tick + 2 }

/-- R67, R201: a store to RAM is seen by the very next fetch: the instruction after an STA that overwrites it is the one the stored
byte names. -/
def Obligations.StoreIsSeenByTheNextFetch : Prop :=
  ∀ (s : State) (op16 : Addr), op16.toNat < 0x2000 → (s.pc + 3#16).toNat < 0x2000 →
    op16.toNat % 0x800 = (s.pc + 3#16).toNat % 0x800 → ∃ t, exec (.staAbs op16) s = .next t ∧ t.fetch.1.opcode = s.a

/-! ### What the terms of the other statements stand for -/

/-- R91, R140: the byte an instruction operates on, and what getting it leaves. At an address it is one bus read; for the sentinel it
is A, with no access. An immediate operand is the byte the fetch has read at PC0 + 1, with no further access (log 6). -/
def Obligations.OperandIsReadOnce : Prop :=
  ∀ (i : Instr) (s : State),
    (∀ a, (s.resolved i).ea = .mem a →
      s.operandByte i = (s.resolved i).state.peek a ∧ s.afterOperand i = (s.resolved i).state.afterRead a) ∧
    ((s.resolved i).ea = .implied → s.operandByte i = s.a ∧ s.afterOperand i = s) ∧
    (∀ a v, (s.resolved i).ea = .imm a v →
      a = s.pc + 1#16 ∧ v = loByte i.operand ∧ s.operandByte i = v ∧ s.afterOperand i = s)

/-- R19: P as a byte is the weighted sum of the eight flags that the statements speak of. The places of C, Z, D, V and N are presumed
(log 11). -/
def Obligations.StatusByteIsItsEightFlags : Prop :=
  ∀ s : State, s.p.toNat = (s.flag .c).toNat + 2 * (s.flag .z).toNat + 4 * (s.flag .i).toNat + 8 * (s.flag .d).toNat +
    16 * (s.flag .b).toNat + 32 * (s.flag .u).toNat + 64 * (s.flag .v).toNat + 128 * (s.flag .n).toNat
end

