-- ==== Sys2Proof/Laws/Bytes.lean ====
section
/-! SUPPORT. What the byte and word helpers are as numbers. -/

namespace Sys2Proof

theorem wordOf_toNat (l h : Byte) : (wordOf l h).toNat = 256 * h.toNat + l.toNat := by
  have : l.toNat < 2 ^ 8 := l.isLt
  simp only [wordOf, BitVec.toNat_append]
  rw [Nat.shiftLeft_eq, Nat.mul_comm, ← Nat.two_pow_add_eq_or_of_lt this]

theorem loByte_toNat (w : Addr) : (loByte w).toNat = w.toNat % 256 := by
  simp [loByte]

theorem hiByte_toNat (w : Addr) : (hiByte w).toNat = w.toNat / 256 := by
  have : w.toNat < 65536 := w.isLt
  simp only [hiByte, BitVec.extractLsb'_toNat, Nat.shiftRight_eq_div_pow]
  omega

theorem zext16_toNat (b : Byte) : (zext16 b).toNat = b.toNat := by
  have : b.toNat < 256 := b.isLt
  simp only [zext16, BitVec.toNat_setWidth]; omega

@[simp] theorem loByte_wordOf (l h : Byte) : loByte (wordOf l h) = l := by
  have : l.toNat < 256 := l.isLt
  apply BitVec.eq_of_toNat_eq; rw [loByte_toNat, wordOf_toNat]; omega

@[simp] theorem hiByte_wordOf (l h : Byte) : hiByte (wordOf l h) = h := by
  have : l.toNat < 256 := l.isLt
  apply BitVec.eq_of_toNat_eq; rw [hiByte_toNat, wordOf_toNat]; omega

@[simp] theorem wordOf_lo_hi (w : Addr) : wordOf (loByte w) (hiByte w) = w := by
  apply BitVec.eq_of_toNat_eq; rw [wordOf_toNat, loByte_toNat, hiByte_toNat]; omega

@[simp] theorem loByte_zext16 (b : Byte) : loByte (zext16 b) = b := by
  have : b.toNat < 256 := b.isLt
  apply BitVec.eq_of_toNat_eq; rw [loByte_toNat, zext16_toNat]; omega

@[simp] theorem hiByte_zext16 (b : Byte) : hiByte (zext16 b) = 0#8 := by
  have : b.toNat < 256 := b.isLt
  apply BitVec.eq_of_toNat_eq; rw [hiByte_toNat, zext16_toNat]; simp; omega

end Sys2Proof
end

