-- ==== Sys2Proof/Laws/Decode.lean ====
section
/-! SUPPORT. What the builder of an instruction gives back when it is encoded, and the three shapes an instruction can have. -/

namespace Sys2Proof

theorem bytes_of_word (o l h : Byte) : [o, loByte (wordOf l h), hiByte (wordOf l h)] = [o, l, h] := by simp

/-- A builder keeps its opcode and puts its operand bytes, low byte first, behind it. -/
def KeepsBytes (f : Byte → Byte → Instr) : Prop :=
  ∀ b1 b2 : Byte, encode (f b1 b2) = (f 0#8 0#8).opcode :: [b1, b2].take ((encode (f 0#8 0#8)).length - 1)

theorem buildRow0_keepsBytes : ∀ f ∈ buildRow0, KeepsBytes f := by
  simp only [buildRow0, List.forall_mem_cons, List.not_mem_nil, false_imp_iff, implies_true, and_true]
  refine ⟨?_, ?_, ?_, ?_, ?_, ?_, ?_, ?_, ?_, ?_, ?_, ?_, ?_, ?_, ?_, ?_⟩ <;> intro b1 b2 <;>
    first | rfl | exact bytes_of_word _ b1 b2

theorem buildRow1_keepsBytes : ∀ f ∈ buildRow1, KeepsBytes f := by
  simp only [buildRow1, List.forall_mem_cons, List.not_mem_nil, false_imp_iff, implies_true, and_true]
  refine ⟨?_, ?_, ?_, ?_, ?_, ?_, ?_, ?_, ?_, ?_, ?_, ?_, ?_, ?_, ?_, ?_⟩ <;> intro b1 b2 <;>
    first | rfl | exact bytes_of_word _ b1 b2

theorem buildRow2_keepsBytes : ∀ f ∈ buildRow2, KeepsBytes f := by
  simp only [buildRow2, List.forall_mem_cons, List.not_mem_nil, false_imp_iff, implies_true, and_true]
  refine ⟨?_, ?_, ?_, ?_, ?_, ?_, ?_, ?_, ?_, ?_, ?_, ?_, ?_, ?_, ?_, ?_⟩ <;> intro b1 b2 <;>
    first | rfl | exact bytes_of_word _ b1 b2

theorem buildRow3_keepsBytes : ∀ f ∈ buildRow3, KeepsBytes f := by
  simp only [buildRow3, List.forall_mem_cons, List.not_mem_nil, false_imp_iff, implies_true, and_true]
  refine ⟨?_, ?_, ?_, ?_, ?_, ?_, ?_, ?_, ?_, ?_, ?_, ?_, ?_, ?_, ?_, ?_⟩ <;> intro b1 b2 <;>
    first | rfl | exact bytes_of_word _ b1 b2

theorem buildRow4_keepsBytes : ∀ f ∈ buildRow4, KeepsBytes f := by
  simp only [buildRow4, List.forall_mem_cons, List.not_mem_nil, false_imp_iff, implies_true, and_true]
  refine ⟨?_, ?_, ?_, ?_, ?_, ?_, ?_, ?_, ?_, ?_, ?_, ?_, ?_, ?_, ?_, ?_⟩ <;> intro b1 b2 <;>
    first | rfl | exact bytes_of_word _ b1 b2

theorem buildRow5_keepsBytes : ∀ f ∈ buildRow5, KeepsBytes f := by
  simp only [buildRow5, List.forall_mem_cons, List.not_mem_nil, false_imp_iff, implies_true, and_true]
  refine ⟨?_, ?_, ?_, ?_, ?_, ?_, ?_, ?_, ?_, ?_, ?_, ?_, ?_, ?_, ?_, ?_⟩ <;> intro b1 b2 <;>
    first | rfl | exact bytes_of_word _ b1 b2

theorem buildRow6_keepsBytes : ∀ f ∈ buildRow6, KeepsBytes f := by
  simp only [buildRow6, List.forall_mem_cons, List.not_mem_nil, false_imp_iff, implies_true, and_true]
  refine ⟨?_, ?_, ?_, ?_, ?_, ?_, ?_, ?_, ?_, ?_, ?_, ?_, ?_, ?_, ?_, ?_⟩ <;> intro b1 b2 <;>
    first | rfl | exact bytes_of_word _ b1 b2

theorem buildRow7_keepsBytes : ∀ f ∈ buildRow7, KeepsBytes f := by
  simp only [buildRow7, List.forall_mem_cons, List.not_mem_nil, false_imp_iff, implies_true, and_true]
  refine ⟨?_, ?_, ?_, ?_, ?_, ?_, ?_, ?_, ?_, ?_, ?_, ?_, ?_, ?_, ?_, ?_⟩ <;> intro b1 b2 <;>
    first | rfl | exact bytes_of_word _ b1 b2

theorem buildRow8_keepsBytes : ∀ f ∈ buildRow8, KeepsBytes f := by
  simp only [buildRow8, List.forall_mem_cons, List.not_mem_nil, false_imp_iff, implies_true, and_true]
  refine ⟨?_, ?_, ?_, ?_, ?_, ?_, ?_, ?_, ?_, ?_, ?_, ?_, ?_, ?_, ?_, ?_⟩ <;> intro b1 b2 <;>
    first | rfl | exact bytes_of_word _ b1 b2

theorem buildRow9_keepsBytes : ∀ f ∈ buildRow9, KeepsBytes f := by
  simp only [buildRow9, List.forall_mem_cons, List.not_mem_nil, false_imp_iff, implies_true, and_true]
  refine ⟨?_, ?_, ?_, ?_, ?_, ?_, ?_, ?_, ?_, ?_, ?_, ?_, ?_, ?_, ?_, ?_⟩ <;> intro b1 b2 <;>
    first | rfl | exact bytes_of_word _ b1 b2

theorem buildRowA_keepsBytes : ∀ f ∈ buildRowA, KeepsBytes f := by
  simp only [buildRowA, List.forall_mem_cons, List.not_mem_nil, false_imp_iff, implies_true, and_true]
  refine ⟨?_, ?_, ?_, ?_, ?_, ?_, ?_, ?_, ?_, ?_, ?_, ?_, ?_, ?_, ?_, ?_⟩ <;> intro b1 b2 <;>
    first | rfl | exact bytes_of_word _ b1 b2

theorem buildRowB_keepsBytes : ∀ f ∈ buildRowB, KeepsBytes f := by
  simp only [buildRowB, List.forall_mem_cons, List.not_mem_nil, false_imp_iff, implies_true, and_true]
  refine ⟨?_, ?_, ?_, ?_, ?_, ?_, ?_, ?_, ?_, ?_, ?_, ?_, ?_, ?_, ?_, ?_⟩ <;> intro b1 b2 <;>
    first | rfl | exact bytes_of_word _ b1 b2

theorem buildRowC_keepsBytes : ∀ f ∈ buildRowC, KeepsBytes f := by
  simp only [buildRowC, List.forall_mem_cons, List.not_mem_nil, false_imp_iff, implies_true, and_true]
  refine ⟨?_, ?_, ?_, ?_, ?_, ?_, ?_, ?_, ?_, ?_, ?_, ?_, ?_, ?_, ?_, ?_⟩ <;> intro b1 b2 <;>
    first | rfl | exact bytes_of_word _ b1 b2

theorem buildRowD_keepsBytes : ∀ f ∈ buildRowD, KeepsBytes f := by
  simp only [buildRowD, List.forall_mem_cons, List.not_mem_nil, false_imp_iff, implies_true, and_true]
  refine ⟨?_, ?_, ?_, ?_, ?_, ?_, ?_, ?_, ?_, ?_, ?_, ?_, ?_, ?_, ?_, ?_⟩ <;> intro b1 b2 <;>
    first | rfl | exact bytes_of_word _ b1 b2

theorem buildRowE_keepsBytes : ∀ f ∈ buildRowE, KeepsBytes f := by
  simp only [buildRowE, List.forall_mem_cons, List.not_mem_nil, false_imp_iff, implies_true, and_true]
  refine ⟨?_, ?_, ?_, ?_, ?_, ?_, ?_, ?_, ?_, ?_, ?_, ?_, ?_, ?_, ?_, ?_⟩ <;> intro b1 b2 <;>
    first | rfl | exact bytes_of_word _ b1 b2

theorem buildRowF_keepsBytes : ∀ f ∈ buildRowF, KeepsBytes f := by
  simp only [buildRowF, List.forall_mem_cons, List.not_mem_nil, false_imp_iff, implies_true, and_true]
  refine ⟨?_, ?_, ?_, ?_, ?_, ?_, ?_, ?_, ?_, ?_, ?_, ?_, ?_, ?_, ?_, ?_⟩ <;> intro b1 b2 <;>
    first | rfl | exact bytes_of_word _ b1 b2

theorem builders_keepBytes : ∀ row ∈ builders, ∀ f ∈ row, KeepsBytes f := by
  simp only [builders, List.forall_mem_cons, List.not_mem_nil, false_imp_iff, implies_true, and_true]
  exact ⟨buildRow0_keepsBytes, buildRow1_keepsBytes, buildRow2_keepsBytes, buildRow3_keepsBytes, buildRow4_keepsBytes, buildRow5_keepsBytes, 
    buildRow6_keepsBytes, buildRow7_keepsBytes, buildRow8_keepsBytes, buildRow9_keepsBytes, buildRowA_keepsBytes, buildRowB_keepsBytes, 
    buildRowC_keepsBytes, buildRowD_keepsBytes, buildRowE_keepsBytes, buildRowF_keepsBytes⟩

theorem byNibbles_mem {α : Type} (rows : List (List α)) (b : Byte) (dflt : α) (h : rows.length = 16)
    (h' : ∀ row ∈ rows, row.length = 16) : ∃ row ∈ rows, byNibbles rows b dflt ∈ row := by
  have hb : b.toNat < 256 := b.isLt
  have h1 : b.toNat / 16 < rows.length := by omega
  refine ⟨rows[b.toNat / 16], List.getElem_mem h1, ?_⟩
  have h2 : b.toNat % 16 < rows[b.toNat / 16].length := by rw [h' _ (List.getElem_mem h1)]; omega
  simp only [byNibbles, List.getD, List.getElem?_eq_getElem h1, List.getElem?_eq_getElem h2, Option.getD_some]
  exact List.getElem_mem h2

/-- Encoding what `build` makes: the opcode and the operand bytes its row consumes. -/
theorem encode_build (opcode b1 b2 : Byte) :
    encode (build opcode b1 b2) = opcode :: [b1, b2].take (table opcode).mode.operandBytes := by
  obtain ⟨row, hrow, hf⟩ := byNibbles_mem builders opcode (f1 .kil02) (by decide) (by decide)
  have h0 : ∀ o : Byte, (build o 0#8 0#8).opcode = o ∧ (encode (build o 0#8 0#8)).length - 1 = (table o).mode.operandBytes := by
    decide +kernel
  have h := builders_keepBytes row hrow _ hf b1 b2
  rw [← (h0 opcode).2]
  exact h.trans (congrArg (· :: _) (h0 opcode).1)

@[simp] theorem build_opcode (opcode b1 b2 : Byte) : (build opcode b1 b2).opcode = opcode := by
  simp [Instr.opcode, encode_build]

@[simp] theorem build_entry (opcode b1 b2 : Byte) : (build opcode b1 b2).entry = table opcode := by
  simp [Instr.entry]

/-- An instruction has no, one or two operand bytes. -/
theorem Mode.operandBytes_cases (m : Mode) : m.operandBytes = 0 ∨ m.operandBytes = 1 ∨ m.operandBytes = 2 := by
  cases m <;> simp [Mode.operandBytes]

end Sys2Proof
end

