-- ==== Sys2Proof/Laws/Memory.lean ====
section
/-! SUPPORT. The laws of Memory and of the cartridge's memories: reading after a write, and that every operation keeps the
canonical form. -/

namespace Sys2Proof.Machine

theorem Memory.read_erase (m : Memory) (n k : Nat) :
    Memory.read (Memory.erase m n) k = if k = n then 0#8 else Memory.read m k := by
  induction m with
  | nil => simp [Memory.erase, Memory.read]
  | cons c m ih =>
    obtain ⟨j, w⟩ := c
    simp only [Memory.erase]
    split <;> simp only [Memory.read, ih] <;> grind

theorem Memory.read_erase_self (m : Memory) (n : Nat) : Memory.read (Memory.erase m n) n = 0#8 := by
  simp [Memory.read_erase]

theorem Memory.read_insert (m : Memory) (n : Nat) (v : Byte) (h : ∀ w, (n, w) ∉ m) (k : Nat) :
    Memory.read (Memory.insert m n v) k = if k = n then v else Memory.read m k := by
  induction m with
  | nil => simp [Memory.insert, Memory.read]; grind
  | cons c m ih =>
    obtain ⟨j, w⟩ := c
    have hj : j ≠ n := fun e => h w (by simp [e])
    have ih := ih (fun w hw => h w (List.mem_cons_of_mem _ hw))
    simp only [Memory.insert]
    split <;> simp only [Memory.read, ih] <;> grind

theorem Memory.not_mem_erase (m : Memory) (n : Nat) (w : Byte) : (n, w) ∉ Memory.erase m n := by
  induction m with
  | nil => simp [Memory.erase]
  | cons c m ih =>
    obtain ⟨j, u⟩ := c
    simp only [Memory.erase]
    split <;> simp_all
    rintro rfl; simp_all

/-- Reading after a write: the written byte at its cell, the old byte at every other. -/
theorem Memory.read_write (m : Memory) (n : Nat) (v : Byte) (k : Nat) :
    Memory.read (Memory.write m n v) k = if k = n then v else Memory.read m k := by
  simp only [Memory.write]
  split
  · simp_all [Memory.read_erase]
  · rw [Memory.read_insert _ _ _ (Memory.not_mem_erase m n), Memory.read_erase]; grind

@[simp] theorem Memory.read_write_self (m : Memory) (n : Nat) (v : Byte) :
    Memory.read (Memory.write m n v) n = v := by simp [Memory.read_write]

theorem Memory.wfFrom_mono {lo lo' : Nat} {m : Memory} (h : lo' ≤ lo) (hm : Memory.wfFrom lo m = true) :
    Memory.wfFrom lo' m = true := by
  cases m with
  | nil => rfl
  | cons c m => simp only [Memory.wfFrom, Bool.and_eq_true, decide_eq_true_eq] at *; exact ⟨⟨by omega, hm.1.2⟩, hm.2⟩

theorem Memory.wfFrom_erase {lo : Nat} {m : Memory} (n : Nat) (hm : Memory.wfFrom lo m = true) :
    Memory.wfFrom lo (Memory.erase m n) = true := by
  induction m generalizing lo with
  | nil => rfl
  | cons c m ih =>
    obtain ⟨k, w⟩ := c
    simp only [Memory.wfFrom, Bool.and_eq_true, decide_eq_true_eq] at hm
    simp only [Memory.erase]
    split
    · exact Memory.wfFrom_mono (by omega) (ih hm.2)
    · simp only [Memory.wfFrom, Bool.and_eq_true, decide_eq_true_eq]; exact ⟨hm.1, ih hm.2⟩

theorem Memory.wfFrom_insert {lo n : Nat} {v : Byte} {m : Memory} (hlo : lo ≤ n) (hv : v ≠ 0#8) (h : ∀ w, (n, w) ∉ m)
    (hm : Memory.wfFrom lo m = true) : Memory.wfFrom lo (Memory.insert m n v) = true := by
  induction m generalizing lo with
  | nil => simpa [Memory.insert, Memory.wfFrom, hlo] using hv
  | cons c m ih =>
    obtain ⟨k, w⟩ := c
    have hk : k ≠ n := fun e => h w (by simp [e])
    simp only [Memory.wfFrom, Bool.and_eq_true, decide_eq_true_eq, bne_iff_ne, ne_eq] at hm
    simp only [Memory.insert]
    split
    · simp only [Memory.wfFrom, Bool.and_eq_true, decide_eq_true_eq, bne_iff_ne, ne_eq]
      exact ⟨hm.1, ih (by omega) (fun w hw => h w (List.mem_cons_of_mem _ hw)) hm.2⟩
    · simp only [Memory.wfFrom, Bool.and_eq_true, decide_eq_true_eq, bne_iff_ne, ne_eq]
      exact ⟨⟨hlo, hv⟩, ⟨by omega, hm.1.2⟩, hm.2⟩

/-- A write keeps the canonical form. -/
theorem Memory.wf_write {m : Memory} (n : Nat) (v : Byte) (hm : Memory.wf m = true) :
    Memory.wf (Memory.write m n v) = true := by
  simp only [Memory.wf, Memory.write] at *
  split
  · exact Memory.wfFrom_erase n hm
  · exact Memory.wfFrom_insert (Nat.zero_le _) ‹_› (Memory.not_mem_erase m n) (Memory.wfFrom_erase n hm)

theorem Memory.within_erase {lo hi : Nat} {m : Memory} (n : Nat) (hm : Memory.within lo hi m = true) :
    Memory.within lo hi (Memory.erase m n) = true := by
  induction m with
  | nil => rfl
  | cons c m ih =>
    obtain ⟨k, w⟩ := c
    simp only [Memory.within, List.all_cons, Bool.and_eq_true] at hm
    simp only [Memory.erase]
    split
    · exact ih hm.2
    · simp only [Memory.within, List.all_cons, Bool.and_eq_true]; exact ⟨hm.1, ih hm.2⟩

theorem Memory.within_insert {lo hi n : Nat} {v : Byte} {m : Memory} (hlo : lo ≤ n) (hhi : n < hi)
    (hm : Memory.within lo hi m = true) : Memory.within lo hi (Memory.insert m n v) = true := by
  induction m with
  | nil => simp [Memory.insert, Memory.within, hlo, hhi]
  | cons c m ih =>
    obtain ⟨k, w⟩ := c
    simp only [Memory.insert]
    split
    · simp only [Memory.within, List.all_cons, Bool.and_eq_true] at hm ⊢; exact ⟨hm.1, ih hm.2⟩
    · simp only [Memory.within, List.all_cons, Bool.and_eq_true, decide_eq_true_eq] at hm ⊢
      exact ⟨⟨hlo, hhi⟩, hm⟩

/-- A write to a cell in range keeps every cell in range. -/
theorem Memory.within_write {lo hi n : Nat} {m : Memory} (v : Byte) (hlo : lo ≤ n) (hhi : n < hi)
    (hm : Memory.within lo hi m = true) : Memory.within lo hi (Memory.write m n v) = true := by
  simp only [Memory.write]
  split
  · exact Memory.within_erase n hm
  · exact Memory.within_insert hlo hhi (Memory.within_erase n hm)

/-- A cartridge write keeps the cartridge's memories canonical and in range. -/
theorem Cart.wf_write {c : Cart} (a : Addr) (v : Byte) (hc : c.wf = true) : (c.write a v).wf = true := by
  cases c with
  | null => rfl
  | external id ws => rfl
  | board rom ram =>
    simp only [Cart.write]
    split
    · simp only [Cart.wf, Bool.and_eq_true] at hc ⊢
      exact ⟨hc.1, Memory.wf_write _ _ hc.2.1, Memory.within_write _ (by omega) (by omega) hc.2.2⟩
    · exact hc

/-- The null cartridge "returns 0 and discards writes" (20_memory.md R47). -/
@[simp] theorem Cart.read_null (a : Addr) : Cart.null.read a = 0#8 := rfl
@[simp] theorem Cart.write_null (a : Addr) (v : Byte) : Cart.null.write a v = .null := rfl

theorem reset_memory_wf : Memory.wf State.reset.ram = true := rfl

end Sys2Proof.Machine
end

