-- ==== Sys2Proof/Laws/State.lean ====
section
/-! SUPPORT. What each update of State does to each field: one lemma for each pair, true by rfl. -/

namespace Sys2Proof.Machine

variable (s : State)

@[simp] theorem State.setA_a (v : Byte) : (s.setA v).a = v := rfl
@[simp] theorem State.setA_x (v : Byte) : (s.setA v).x = s.x := rfl
@[simp] theorem State.setA_y (v : Byte) : (s.setA v).y = s.y := rfl
@[simp] theorem State.setA_sp (v : Byte) : (s.setA v).sp = s.sp := rfl
@[simp] theorem State.setA_p (v : Byte) : (s.setA v).p = s.p := rfl
@[simp] theorem State.setA_pc (v : Byte) : (s.setA v).pc = s.pc := rfl
@[simp] theorem State.setA_ram (v : Byte) : (s.setA v).ram = s.ram := rfl
@[simp] theorem State.setA_tick (v : Byte) : (s.setA v).tick = s.tick := rfl
@[simp] theorem State.setA_resetReq (v : Byte) : (s.setA v).resetReq = s.resetReq := rfl
@[simp] theorem State.setA_nmiPending (v : Byte) : (s.setA v).nmiPending = s.nmiPending := rfl
@[simp] theorem State.setA_irqLine (v : Byte) : (s.setA v).irqLine = s.irqLine := rfl
@[simp] theorem State.setA_cart (v : Byte) : (s.setA v).cart = s.cart := rfl
@[simp] theorem State.setA_ppu (v : Byte) : (s.setA v).ppu = s.ppu := rfl
@[simp] theorem State.setA_params (v : Byte) : (s.setA v).params = s.params := rfl
@[simp] theorem State.setA_frame (v : Byte) : (s.setA v).frame = s.frame := rfl
@[simp] theorem State.setA_self : s.setA s.a = s := rfl
@[simp] theorem State.setA_setA (v w : Byte) : (s.setA v).setA w = s.setA w := rfl

@[simp] theorem State.setX_a (v : Byte) : (s.setX v).a = s.a := rfl
@[simp] theorem State.setX_x (v : Byte) : (s.setX v).x = v := rfl
@[simp] theorem State.setX_y (v : Byte) : (s.setX v).y = s.y := rfl
@[simp] theorem State.setX_sp (v : Byte) : (s.setX v).sp = s.sp := rfl
@[simp] theorem State.setX_p (v : Byte) : (s.setX v).p = s.p := rfl
@[simp] theorem State.setX_pc (v : Byte) : (s.setX v).pc = s.pc := rfl
@[simp] theorem State.setX_ram (v : Byte) : (s.setX v).ram = s.ram := rfl
@[simp] theorem State.setX_tick (v : Byte) : (s.setX v).tick = s.tick := rfl
@[simp] theorem State.setX_resetReq (v : Byte) : (s.setX v).resetReq = s.resetReq := rfl
@[simp] theorem State.setX_nmiPending (v : Byte) : (s.setX v).nmiPending = s.nmiPending := rfl
@[simp] theorem State.setX_irqLine (v : Byte) : (s.setX v).irqLine = s.irqLine := rfl
@[simp] theorem State.setX_cart (v : Byte) : (s.setX v).cart = s.cart := rfl
@[simp] theorem State.setX_ppu (v : Byte) : (s.setX v).ppu = s.ppu := rfl
@[simp] theorem State.setX_params (v : Byte) : (s.setX v).params = s.params := rfl
@[simp] theorem State.setX_frame (v : Byte) : (s.setX v).frame = s.frame := rfl
@[simp] theorem State.setX_self : s.setX s.x = s := rfl
@[simp] theorem State.setX_setX (v w : Byte) : (s.setX v).setX w = s.setX w := rfl

@[simp] theorem State.setY_a (v : Byte) : (s.setY v).a = s.a := rfl
@[simp] theorem State.setY_x (v : Byte) : (s.setY v).x = s.x := rfl
@[simp] theorem State.setY_y (v : Byte) : (s.setY v).y = v := rfl
@[simp] theorem State.setY_sp (v : Byte) : (s.setY v).sp = s.sp := rfl
@[simp] theorem State.setY_p (v : Byte) : (s.setY v).p = s.p := rfl
@[simp] theorem State.setY_pc (v : Byte) : (s.setY v).pc = s.pc := rfl
@[simp] theorem State.setY_ram (v : Byte) : (s.setY v).ram = s.ram := rfl
@[simp] theorem State.setY_tick (v : Byte) : (s.setY v).tick = s.tick := rfl
@[simp] theorem State.setY_resetReq (v : Byte) : (s.setY v).resetReq = s.resetReq := rfl
@[simp] theorem State.setY_nmiPending (v : Byte) : (s.setY v).nmiPending = s.nmiPending := rfl
@[simp] theorem State.setY_irqLine (v : Byte) : (s.setY v).irqLine = s.irqLine := rfl
@[simp] theorem State.setY_cart (v : Byte) : (s.setY v).cart = s.cart := rfl
@[simp] theorem State.setY_ppu (v : Byte) : (s.setY v).ppu = s.ppu := rfl
@[simp] theorem State.setY_params (v : Byte) : (s.setY v).params = s.params := rfl
@[simp] theorem State.setY_frame (v : Byte) : (s.setY v).frame = s.frame := rfl
@[simp] theorem State.setY_self : s.setY s.y = s := rfl
@[simp] theorem State.setY_setY (v w : Byte) : (s.setY v).setY w = s.setY w := rfl

@[simp] theorem State.setSp_a (v : Byte) : (s.setSp v).a = s.a := rfl
@[simp] theorem State.setSp_x (v : Byte) : (s.setSp v).x = s.x := rfl
@[simp] theorem State.setSp_y (v : Byte) : (s.setSp v).y = s.y := rfl
@[simp] theorem State.setSp_sp (v : Byte) : (s.setSp v).sp = v := rfl
@[simp] theorem State.setSp_p (v : Byte) : (s.setSp v).p = s.p := rfl
@[simp] theorem State.setSp_pc (v : Byte) : (s.setSp v).pc = s.pc := rfl
@[simp] theorem State.setSp_ram (v : Byte) : (s.setSp v).ram = s.ram := rfl
@[simp] theorem State.setSp_tick (v : Byte) : (s.setSp v).tick = s.tick := rfl
@[simp] theorem State.setSp_resetReq (v : Byte) : (s.setSp v).resetReq = s.resetReq := rfl
@[simp] theorem State.setSp_nmiPending (v : Byte) : (s.setSp v).nmiPending = s.nmiPending := rfl
@[simp] theorem State.setSp_irqLine (v : Byte) : (s.setSp v).irqLine = s.irqLine := rfl
@[simp] theorem State.setSp_cart (v : Byte) : (s.setSp v).cart = s.cart := rfl
@[simp] theorem State.setSp_ppu (v : Byte) : (s.setSp v).ppu = s.ppu := rfl
@[simp] theorem State.setSp_params (v : Byte) : (s.setSp v).params = s.params := rfl
@[simp] theorem State.setSp_frame (v : Byte) : (s.setSp v).frame = s.frame := rfl
@[simp] theorem State.setSp_self : s.setSp s.sp = s := rfl
@[simp] theorem State.setSp_setSp (v w : Byte) : (s.setSp v).setSp w = s.setSp w := rfl

@[simp] theorem State.setP_a (v : Byte) : (s.setP v).a = s.a := rfl
@[simp] theorem State.setP_x (v : Byte) : (s.setP v).x = s.x := rfl
@[simp] theorem State.setP_y (v : Byte) : (s.setP v).y = s.y := rfl
@[simp] theorem State.setP_sp (v : Byte) : (s.setP v).sp = s.sp := rfl
@[simp] theorem State.setP_p (v : Byte) : (s.setP v).p = v := rfl
@[simp] theorem State.setP_pc (v : Byte) : (s.setP v).pc = s.pc := rfl
@[simp] theorem State.setP_ram (v : Byte) : (s.setP v).ram = s.ram := rfl
@[simp] theorem State.setP_tick (v : Byte) : (s.setP v).tick = s.tick := rfl
@[simp] theorem State.setP_resetReq (v : Byte) : (s.setP v).resetReq = s.resetReq := rfl
@[simp] theorem State.setP_nmiPending (v : Byte) : (s.setP v).nmiPending = s.nmiPending := rfl
@[simp] theorem State.setP_irqLine (v : Byte) : (s.setP v).irqLine = s.irqLine := rfl
@[simp] theorem State.setP_cart (v : Byte) : (s.setP v).cart = s.cart := rfl
@[simp] theorem State.setP_ppu (v : Byte) : (s.setP v).ppu = s.ppu := rfl
@[simp] theorem State.setP_params (v : Byte) : (s.setP v).params = s.params := rfl
@[simp] theorem State.setP_frame (v : Byte) : (s.setP v).frame = s.frame := rfl
@[simp] theorem State.setP_self : s.setP s.p = s := rfl
@[simp] theorem State.setP_setP (v w : Byte) : (s.setP v).setP w = s.setP w := rfl

@[simp] theorem State.setPc_a (v : Addr) : (s.setPc v).a = s.a := rfl
@[simp] theorem State.setPc_x (v : Addr) : (s.setPc v).x = s.x := rfl
@[simp] theorem State.setPc_y (v : Addr) : (s.setPc v).y = s.y := rfl
@[simp] theorem State.setPc_sp (v : Addr) : (s.setPc v).sp = s.sp := rfl
@[simp] theorem State.setPc_p (v : Addr) : (s.setPc v).p = s.p := rfl
@[simp] theorem State.setPc_pc (v : Addr) : (s.setPc v).pc = v := rfl
@[simp] theorem State.setPc_ram (v : Addr) : (s.setPc v).ram = s.ram := rfl
@[simp] theorem State.setPc_tick (v : Addr) : (s.setPc v).tick = s.tick := rfl
@[simp] theorem State.setPc_resetReq (v : Addr) : (s.setPc v).resetReq = s.resetReq := rfl
@[simp] theorem State.setPc_nmiPending (v : Addr) : (s.setPc v).nmiPending = s.nmiPending := rfl
@[simp] theorem State.setPc_irqLine (v : Addr) : (s.setPc v).irqLine = s.irqLine := rfl
@[simp] theorem State.setPc_cart (v : Addr) : (s.setPc v).cart = s.cart := rfl
@[simp] theorem State.setPc_ppu (v : Addr) : (s.setPc v).ppu = s.ppu := rfl
@[simp] theorem State.setPc_params (v : Addr) : (s.setPc v).params = s.params := rfl
@[simp] theorem State.setPc_frame (v : Addr) : (s.setPc v).frame = s.frame := rfl
@[simp] theorem State.setPc_self : s.setPc s.pc = s := rfl
@[simp] theorem State.setPc_setPc (v w : Addr) : (s.setPc v).setPc w = s.setPc w := rfl

@[simp] theorem State.setRam_a (v : Memory) : (s.setRam v).a = s.a := rfl
@[simp] theorem State.setRam_x (v : Memory) : (s.setRam v).x = s.x := rfl
@[simp] theorem State.setRam_y (v : Memory) : (s.setRam v).y = s.y := rfl
@[simp] theorem State.setRam_sp (v : Memory) : (s.setRam v).sp = s.sp := rfl
@[simp] theorem State.setRam_p (v : Memory) : (s.setRam v).p = s.p := rfl
@[simp] theorem State.setRam_pc (v : Memory) : (s.setRam v).pc = s.pc := rfl
@[simp] theorem State.setRam_ram (v : Memory) : (s.setRam v).ram = v := rfl
@[simp] theorem State.setRam_tick (v : Memory) : (s.setRam v).tick = s.tick := rfl
@[simp] theorem State.setRam_resetReq (v : Memory) : (s.setRam v).resetReq = s.resetReq := rfl
@[simp] theorem State.setRam_nmiPending (v : Memory) : (s.setRam v).nmiPending = s.nmiPending := rfl
@[simp] theorem State.setRam_irqLine (v : Memory) : (s.setRam v).irqLine = s.irqLine := rfl
@[simp] theorem State.setRam_cart (v : Memory) : (s.setRam v).cart = s.cart := rfl
@[simp] theorem State.setRam_ppu (v : Memory) : (s.setRam v).ppu = s.ppu := rfl
@[simp] theorem State.setRam_params (v : Memory) : (s.setRam v).params = s.params := rfl
@[simp] theorem State.setRam_frame (v : Memory) : (s.setRam v).frame = s.frame := rfl
@[simp] theorem State.setRam_self : s.setRam s.ram = s := rfl
@[simp] theorem State.setRam_setRam (v w : Memory) : (s.setRam v).setRam w = s.setRam w := rfl

@[simp] theorem State.setTick_a (v : Nat) : (s.setTick v).a = s.a := rfl
@[simp] theorem State.setTick_x (v : Nat) : (s.setTick v).x = s.x := rfl
@[simp] theorem State.setTick_y (v : Nat) : (s.setTick v).y = s.y := rfl
@[simp] theorem State.setTick_sp (v : Nat) : (s.setTick v).sp = s.sp := rfl
@[simp] theorem State.setTick_p (v : Nat) : (s.setTick v).p = s.p := rfl
@[simp] theorem State.setTick_pc (v : Nat) : (s.setTick v).pc = s.pc := rfl
@[simp] theorem State.setTick_ram (v : Nat) : (s.setTick v).ram = s.ram := rfl
@[simp] theorem State.setTick_tick (v : Nat) : (s.setTick v).tick = v := rfl
@[simp] theorem State.setTick_resetReq (v : Nat) : (s.setTick v).resetReq = s.resetReq := rfl
@[simp] theorem State.setTick_nmiPending (v : Nat) : (s.setTick v).nmiPending = s.nmiPending := rfl
@[simp] theorem State.setTick_irqLine (v : Nat) : (s.setTick v).irqLine = s.irqLine := rfl
@[simp] theorem State.setTick_cart (v : Nat) : (s.setTick v).cart = s.cart := rfl
@[simp] theorem State.setTick_ppu (v : Nat) : (s.setTick v).ppu = s.ppu := rfl
@[simp] theorem State.setTick_params (v : Nat) : (s.setTick v).params = s.params := rfl
@[simp] theorem State.setTick_frame (v : Nat) : (s.setTick v).frame = s.frame := rfl
@[simp] theorem State.setTick_self : s.setTick s.tick = s := rfl
@[simp] theorem State.setTick_setTick (v w : Nat) : (s.setTick v).setTick w = s.setTick w := rfl

@[simp] theorem State.setResetReq_a (v : Bool) : (s.setResetReq v).a = s.a := rfl
@[simp] theorem State.setResetReq_x (v : Bool) : (s.setResetReq v).x = s.x := rfl
@[simp] theorem State.setResetReq_y (v : Bool) : (s.setResetReq v).y = s.y := rfl
@[simp] theorem State.setResetReq_sp (v : Bool) : (s.setResetReq v).sp = s.sp := rfl
@[simp] theorem State.setResetReq_p (v : Bool) : (s.setResetReq v).p = s.p := rfl
@[simp] theorem State.setResetReq_pc (v : Bool) : (s.setResetReq v).pc = s.pc := rfl
@[simp] theorem State.setResetReq_ram (v : Bool) : (s.setResetReq v).ram = s.ram := rfl
@[simp] theorem State.setResetReq_tick (v : Bool) : (s.setResetReq v).tick = s.tick := rfl
@[simp] theorem State.setResetReq_resetReq (v : Bool) : (s.setResetReq v).resetReq = v := rfl
@[simp] theorem State.setResetReq_nmiPending (v : Bool) : (s.setResetReq v).nmiPending = s.nmiPending := rfl
@[simp] theorem State.setResetReq_irqLine (v : Bool) : (s.setResetReq v).irqLine = s.irqLine := rfl
@[simp] theorem State.setResetReq_cart (v : Bool) : (s.setResetReq v).cart = s.cart := rfl
@[simp] theorem State.setResetReq_ppu (v : Bool) : (s.setResetReq v).ppu = s.ppu := rfl
@[simp] theorem State.setResetReq_params (v : Bool) : (s.setResetReq v).params = s.params := rfl
@[simp] theorem State.setResetReq_frame (v : Bool) : (s.setResetReq v).frame = s.frame := rfl
@[simp] theorem State.setResetReq_self : s.setResetReq s.resetReq = s := rfl
@[simp] theorem State.setResetReq_setResetReq (v w : Bool) : (s.setResetReq v).setResetReq w = s.setResetReq w := rfl

@[simp] theorem State.setNmiPending_a (v : Bool) : (s.setNmiPending v).a = s.a := rfl
@[simp] theorem State.setNmiPending_x (v : Bool) : (s.setNmiPending v).x = s.x := rfl
@[simp] theorem State.setNmiPending_y (v : Bool) : (s.setNmiPending v).y = s.y := rfl
@[simp] theorem State.setNmiPending_sp (v : Bool) : (s.setNmiPending v).sp = s.sp := rfl
@[simp] theorem State.setNmiPending_p (v : Bool) : (s.setNmiPending v).p = s.p := rfl
@[simp] theorem State.setNmiPending_pc (v : Bool) : (s.setNmiPending v).pc = s.pc := rfl
@[simp] theorem State.setNmiPending_ram (v : Bool) : (s.setNmiPending v).ram = s.ram := rfl
@[simp] theorem State.setNmiPending_tick (v : Bool) : (s.setNmiPending v).tick = s.tick := rfl
@[simp] theorem State.setNmiPending_resetReq (v : Bool) : (s.setNmiPending v).resetReq = s.resetReq := rfl
@[simp] theorem State.setNmiPending_nmiPending (v : Bool) : (s.setNmiPending v).nmiPending = v := rfl
@[simp] theorem State.setNmiPending_irqLine (v : Bool) : (s.setNmiPending v).irqLine = s.irqLine := rfl
@[simp] theorem State.setNmiPending_cart (v : Bool) : (s.setNmiPending v).cart = s.cart := rfl
@[simp] theorem State.setNmiPending_ppu (v : Bool) : (s.setNmiPending v).ppu = s.ppu := rfl
@[simp] theorem State.setNmiPending_params (v : Bool) : (s.setNmiPending v).params = s.params := rfl
@[simp] theorem State.setNmiPending_frame (v : Bool) : (s.setNmiPending v).frame = s.frame := rfl
@[simp] theorem State.setNmiPending_self : s.setNmiPending s.nmiPending = s := rfl
@[simp] theorem State.setNmiPending_setNmiPending (v w : Bool) : (s.setNmiPending v).setNmiPending w = s.setNmiPending w := rfl

@[simp] theorem State.setIrqLine_a (v : Bool) : (s.setIrqLine v).a = s.a := rfl
@[simp] theorem State.setIrqLine_x (v : Bool) : (s.setIrqLine v).x = s.x := rfl
@[simp] theorem State.setIrqLine_y (v : Bool) : (s.setIrqLine v).y = s.y := rfl
@[simp] theorem State.setIrqLine_sp (v : Bool) : (s.setIrqLine v).sp = s.sp := rfl
@[simp] theorem State.setIrqLine_p (v : Bool) : (s.setIrqLine v).p = s.p := rfl
@[simp] theorem State.setIrqLine_pc (v : Bool) : (s.setIrqLine v).pc = s.pc := rfl
@[simp] theorem State.setIrqLine_ram (v : Bool) : (s.setIrqLine v).ram = s.ram := rfl
@[simp] theorem State.setIrqLine_tick (v : Bool) : (s.setIrqLine v).tick = s.tick := rfl
@[simp] theorem State.setIrqLine_resetReq (v : Bool) : (s.setIrqLine v).resetReq = s.resetReq := rfl
@[simp] theorem State.setIrqLine_nmiPending (v : Bool) : (s.setIrqLine v).nmiPending = s.nmiPending := rfl
@[simp] theorem State.setIrqLine_irqLine (v : Bool) : (s.setIrqLine v).irqLine = v := rfl
@[simp] theorem State.setIrqLine_cart (v : Bool) : (s.setIrqLine v).cart = s.cart := rfl
@[simp] theorem State.setIrqLine_ppu (v : Bool) : (s.setIrqLine v).ppu = s.ppu := rfl
@[simp] theorem State.setIrqLine_params (v : Bool) : (s.setIrqLine v).params = s.params := rfl
@[simp] theorem State.setIrqLine_frame (v : Bool) : (s.setIrqLine v).frame = s.frame := rfl
@[simp] theorem State.setIrqLine_self : s.setIrqLine s.irqLine = s := rfl
@[simp] theorem State.setIrqLine_setIrqLine (v w : Bool) : (s.setIrqLine v).setIrqLine w = s.setIrqLine w := rfl

@[simp] theorem State.setCart_a (v : Cart) : (s.setCart v).a = s.a := rfl
@[simp] theorem State.setCart_x (v : Cart) : (s.setCart v).x = s.x := rfl
@[simp] theorem State.setCart_y (v : Cart) : (s.setCart v).y = s.y := rfl
@[simp] theorem State.setCart_sp (v : Cart) : (s.setCart v).sp = s.sp := rfl
@[simp] theorem State.setCart_p (v : Cart) : (s.setCart v).p = s.p := rfl
@[simp] theorem State.setCart_pc (v : Cart) : (s.setCart v).pc = s.pc := rfl
@[simp] theorem State.setCart_ram (v : Cart) : (s.setCart v).ram = s.ram := rfl
@[simp] theorem State.setCart_tick (v : Cart) : (s.setCart v).tick = s.tick := rfl
@[simp] theorem State.setCart_resetReq (v : Cart) : (s.setCart v).resetReq = s.resetReq := rfl
@[simp] theorem State.setCart_nmiPending (v : Cart) : (s.setCart v).nmiPending = s.nmiPending := rfl
@[simp] theorem State.setCart_irqLine (v : Cart) : (s.setCart v).irqLine = s.irqLine := rfl
@[simp] theorem State.setCart_cart (v : Cart) : (s.setCart v).cart = v := rfl
@[simp] theorem State.setCart_ppu (v : Cart) : (s.setCart v).ppu = s.ppu := rfl
@[simp] theorem State.setCart_params (v : Cart) : (s.setCart v).params = s.params := rfl
@[simp] theorem State.setCart_frame (v : Cart) : (s.setCart v).frame = s.frame := rfl
@[simp] theorem State.setCart_self : s.setCart s.cart = s := rfl
@[simp] theorem State.setCart_setCart (v w : Cart) : (s.setCart v).setCart w = s.setCart w := rfl

@[simp] theorem State.setPpu_a (v : Ppu) : (s.setPpu v).a = s.a := rfl
@[simp] theorem State.setPpu_x (v : Ppu) : (s.setPpu v).x = s.x := rfl
@[simp] theorem State.setPpu_y (v : Ppu) : (s.setPpu v).y = s.y := rfl
@[simp] theorem State.setPpu_sp (v : Ppu) : (s.setPpu v).sp = s.sp := rfl
@[simp] theorem State.setPpu_p (v : Ppu) : (s.setPpu v).p = s.p := rfl
@[simp] theorem State.setPpu_pc (v : Ppu) : (s.setPpu v).pc = s.pc := rfl
@[simp] theorem State.setPpu_ram (v : Ppu) : (s.setPpu v).ram = s.ram := rfl
@[simp] theorem State.setPpu_tick (v : Ppu) : (s.setPpu v).tick = s.tick := rfl
@[simp] theorem State.setPpu_resetReq (v : Ppu) : (s.setPpu v).resetReq = s.resetReq := rfl
@[simp] theorem State.setPpu_nmiPending (v : Ppu) : (s.setPpu v).nmiPending = s.nmiPending := rfl
@[simp] theorem State.setPpu_irqLine (v : Ppu) : (s.setPpu v).irqLine = s.irqLine := rfl
@[simp] theorem State.setPpu_cart (v : Ppu) : (s.setPpu v).cart = s.cart := rfl
@[simp] theorem State.setPpu_ppu (v : Ppu) : (s.setPpu v).ppu = v := rfl
@[simp] theorem State.setPpu_params (v : Ppu) : (s.setPpu v).params = s.params := rfl
@[simp] theorem State.setPpu_frame (v : Ppu) : (s.setPpu v).frame = s.frame := rfl
@[simp] theorem State.setPpu_self : s.setPpu s.ppu = s := rfl
@[simp] theorem State.setPpu_setPpu (v w : Ppu) : (s.setPpu v).setPpu w = s.setPpu w := rfl

@[simp] theorem State.setParams_a (v : Config.Params) : (s.setParams v).a = s.a := rfl
@[simp] theorem State.setParams_x (v : Config.Params) : (s.setParams v).x = s.x := rfl
@[simp] theorem State.setParams_y (v : Config.Params) : (s.setParams v).y = s.y := rfl
@[simp] theorem State.setParams_sp (v : Config.Params) : (s.setParams v).sp = s.sp := rfl
@[simp] theorem State.setParams_p (v : Config.Params) : (s.setParams v).p = s.p := rfl
@[simp] theorem State.setParams_pc (v : Config.Params) : (s.setParams v).pc = s.pc := rfl
@[simp] theorem State.setParams_ram (v : Config.Params) : (s.setParams v).ram = s.ram := rfl
@[simp] theorem State.setParams_tick (v : Config.Params) : (s.setParams v).tick = s.tick := rfl
@[simp] theorem State.setParams_resetReq (v : Config.Params) : (s.setParams v).resetReq = s.resetReq := rfl
@[simp] theorem State.setParams_nmiPending (v : Config.Params) : (s.setParams v).nmiPending = s.nmiPending := rfl
@[simp] theorem State.setParams_irqLine (v : Config.Params) : (s.setParams v).irqLine = s.irqLine := rfl
@[simp] theorem State.setParams_cart (v : Config.Params) : (s.setParams v).cart = s.cart := rfl
@[simp] theorem State.setParams_ppu (v : Config.Params) : (s.setParams v).ppu = s.ppu := rfl
@[simp] theorem State.setParams_params (v : Config.Params) : (s.setParams v).params = v := rfl
@[simp] theorem State.setParams_frame (v : Config.Params) : (s.setParams v).frame = s.frame := rfl
@[simp] theorem State.setParams_self : s.setParams s.params = s := rfl
@[simp] theorem State.setParams_setParams (v w : Config.Params) : (s.setParams v).setParams w = s.setParams w := rfl

@[simp] theorem State.setFrame_a (v : FrameDriver) : (s.setFrame v).a = s.a := rfl
@[simp] theorem State.setFrame_x (v : FrameDriver) : (s.setFrame v).x = s.x := rfl
@[simp] theorem State.setFrame_y (v : FrameDriver) : (s.setFrame v).y = s.y := rfl
@[simp] theorem State.setFrame_sp (v : FrameDriver) : (s.setFrame v).sp = s.sp := rfl
@[simp] theorem State.setFrame_p (v : FrameDriver) : (s.setFrame v).p = s.p := rfl
@[simp] theorem State.setFrame_pc (v : FrameDriver) : (s.setFrame v).pc = s.pc := rfl
@[simp] theorem State.setFrame_ram (v : FrameDriver) : (s.setFrame v).ram = s.ram := rfl
@[simp] theorem State.setFrame_tick (v : FrameDriver) : (s.setFrame v).tick = s.tick := rfl
@[simp] theorem State.setFrame_resetReq (v : FrameDriver) : (s.setFrame v).resetReq = s.resetReq := rfl
@[simp] theorem State.setFrame_nmiPending (v : FrameDriver) : (s.setFrame v).nmiPending = s.nmiPending := rfl
@[simp] theorem State.setFrame_irqLine (v : FrameDriver) : (s.setFrame v).irqLine = s.irqLine := rfl
@[simp] theorem State.setFrame_cart (v : FrameDriver) : (s.setFrame v).cart = s.cart := rfl
@[simp] theorem State.setFrame_ppu (v : FrameDriver) : (s.setFrame v).ppu = s.ppu := rfl
@[simp] theorem State.setFrame_params (v : FrameDriver) : (s.setFrame v).params = s.params := rfl
@[simp] theorem State.setFrame_frame (v : FrameDriver) : (s.setFrame v).frame = v := rfl
@[simp] theorem State.setFrame_self : s.setFrame s.frame = s := rfl
@[simp] theorem State.setFrame_setFrame (v w : FrameDriver) : (s.setFrame v).setFrame w = s.setFrame w := rfl

@[simp] theorem State.addTicks_a (n : Nat) : (s.addTicks n).a = s.a := rfl
@[simp] theorem State.addTicks_x (n : Nat) : (s.addTicks n).x = s.x := rfl
@[simp] theorem State.addTicks_y (n : Nat) : (s.addTicks n).y = s.y := rfl
@[simp] theorem State.addTicks_sp (n : Nat) : (s.addTicks n).sp = s.sp := rfl
@[simp] theorem State.addTicks_p (n : Nat) : (s.addTicks n).p = s.p := rfl
@[simp] theorem State.addTicks_pc (n : Nat) : (s.addTicks n).pc = s.pc := rfl
@[simp] theorem State.addTicks_ram (n : Nat) : (s.addTicks n).ram = s.ram := rfl
@[simp] theorem State.addTicks_tick (n : Nat) : (s.addTicks n).tick = s.tick + n := rfl
@[simp] theorem State.addTicks_resetReq (n : Nat) : (s.addTicks n).resetReq = s.resetReq := rfl
@[simp] theorem State.addTicks_nmiPending (n : Nat) : (s.addTicks n).nmiPending = s.nmiPending := rfl
@[simp] theorem State.addTicks_irqLine (n : Nat) : (s.addTicks n).irqLine = s.irqLine := rfl
@[simp] theorem State.addTicks_cart (n : Nat) : (s.addTicks n).cart = s.cart := rfl
@[simp] theorem State.addTicks_ppu (n : Nat) : (s.addTicks n).ppu = s.ppu := rfl
@[simp] theorem State.addTicks_params (n : Nat) : (s.addTicks n).params = s.params := rfl
@[simp] theorem State.addTicks_frame (n : Nat) : (s.addTicks n).frame = s.frame := rfl

@[simp] theorem State.setFlag_a (f : Flag) (v : Bool) : (s.setFlag f v).a = s.a := rfl
@[simp] theorem State.setFlag_x (f : Flag) (v : Bool) : (s.setFlag f v).x = s.x := rfl
@[simp] theorem State.setFlag_y (f : Flag) (v : Bool) : (s.setFlag f v).y = s.y := rfl
@[simp] theorem State.setFlag_sp (f : Flag) (v : Bool) : (s.setFlag f v).sp = s.sp := rfl
@[simp] theorem State.setFlag_pc (f : Flag) (v : Bool) : (s.setFlag f v).pc = s.pc := rfl
@[simp] theorem State.setFlag_ram (f : Flag) (v : Bool) : (s.setFlag f v).ram = s.ram := rfl
@[simp] theorem State.setFlag_tick (f : Flag) (v : Bool) : (s.setFlag f v).tick = s.tick := rfl
@[simp] theorem State.setFlag_resetReq (f : Flag) (v : Bool) : (s.setFlag f v).resetReq = s.resetReq := rfl
@[simp] theorem State.setFlag_nmiPending (f : Flag) (v : Bool) : (s.setFlag f v).nmiPending = s.nmiPending := rfl
@[simp] theorem State.setFlag_irqLine (f : Flag) (v : Bool) : (s.setFlag f v).irqLine = s.irqLine := rfl
@[simp] theorem State.setFlag_cart (f : Flag) (v : Bool) : (s.setFlag f v).cart = s.cart := rfl
@[simp] theorem State.setFlag_ppu (f : Flag) (v : Bool) : (s.setFlag f v).ppu = s.ppu := rfl
@[simp] theorem State.setFlag_params (f : Flag) (v : Bool) : (s.setFlag f v).params = s.params := rfl
@[simp] theorem State.setFlag_frame (f : Flag) (v : Bool) : (s.setFlag f v).frame = s.frame := rfl
@[simp] theorem State.setZN_a (v : Byte) : (s.setZN v).a = s.a := rfl
@[simp] theorem State.setZN_x (v : Byte) : (s.setZN v).x = s.x := rfl
@[simp] theorem State.setZN_y (v : Byte) : (s.setZN v).y = s.y := rfl
@[simp] theorem State.setZN_sp (v : Byte) : (s.setZN v).sp = s.sp := rfl
@[simp] theorem State.setZN_pc (v : Byte) : (s.setZN v).pc = s.pc := rfl
@[simp] theorem State.setZN_ram (v : Byte) : (s.setZN v).ram = s.ram := rfl
@[simp] theorem State.setZN_tick (v : Byte) : (s.setZN v).tick = s.tick := rfl
@[simp] theorem State.setZN_resetReq (v : Byte) : (s.setZN v).resetReq = s.resetReq := rfl
@[simp] theorem State.setZN_nmiPending (v : Byte) : (s.setZN v).nmiPending = s.nmiPending := rfl
@[simp] theorem State.setZN_irqLine (v : Byte) : (s.setZN v).irqLine = s.irqLine := rfl
@[simp] theorem State.setZN_cart (v : Byte) : (s.setZN v).cart = s.cart := rfl
@[simp] theorem State.setZN_ppu (v : Byte) : (s.setZN v).ppu = s.ppu := rfl
@[simp] theorem State.setZN_params (v : Byte) : (s.setZN v).params = s.params := rfl
@[simp] theorem State.setZN_frame (v : Byte) : (s.setZN v).frame = s.frame := rfl

@[simp] theorem State.setFlag_p (f : Flag) (v : Bool) : (s.setFlag f v).p = withFlag s.p f v := rfl
@[simp] theorem State.setZN_p (v : Byte) :
    (s.setZN v).p = withFlag (withFlag s.p .z (v == 0#8)) .n (v.getLsbD 7) := rfl

end Sys2Proof.Machine
end

