-- ==== Sys2Proof/Laws/Ops.lean ====
section
/-! SUPPORT. One lemma for each shared operation over the bus, the stack and the interrupts, saying what it leaves. -/

namespace Sys2Proof.Machine

/-! ### Routing -/

theorem route_ram {a : Addr} (h : a.toNat < 0x2000) : route a = .ram (a.toNat % 0x800) := by
  have : (a &&& 0x07FF#16).toNat = a.toNat % 0x800 := by
    rw [BitVec.toNat_and]; exact Nat.and_two_pow_sub_one_eq_mod a.toNat 11
  simp [route, h, this]

theorem route_ppu {a : Addr} (h : 0x2000 ≤ a.toNat) (h' : a.toNat < 0x4000) :
    route a = .ppu ((a &&& 0x0007#16).setWidth 3) := by
  simp [route, Nat.not_lt.mpr h, h']

theorem route_dma : route 0x4014#16 = .dma := rfl

theorem route_stub {a : Addr} (h : 0x4000 ≤ a.toNat) (h' : a.toNat < 0x4018) (hne : a ≠ 0x4014#16) : route a = .stub := by
  have : ¬ a.toNat < 0x2000 := by omega
  simp [route, this, Nat.not_lt.mpr h, h', hne]

theorem route_cart {a : Addr} (h : 0x4018 ≤ a.toNat) : route a = .cart := by
  have h1 : ¬ a.toNat < 0x2000 := by omega
  have h2 : ¬ a.toNat < 0x4000 := by omega
  have h3 : ¬ a.toNat < 0x4018 := by omega
  have h4 : a ≠ 0x4014#16 := by rintro rfl; exact absurd h (by decide)
  simp [route, h1, h2, h3, h4]

/-- Every address resolves to exactly one target (20_memory.md R41, R42), with what is known of it there. -/
theorem route_cases (a : Addr) :
    (a.toNat < 0x2000 ∧ route a = .ram (a.toNat % 0x800)) ∨
    (0x2000 ≤ a.toNat ∧ a.toNat < 0x4000 ∧ route a = .ppu ((a &&& 0x0007#16).setWidth 3)) ∨
    (a = 0x4014#16 ∧ route a = .dma) ∨
    (0x4000 ≤ a.toNat ∧ a.toNat < 0x4018 ∧ a ≠ 0x4014#16 ∧ route a = .stub) ∨
    (0x4018 ≤ a.toNat ∧ route a = .cart) := by
  by_cases h1 : a.toNat < 0x2000
  · exact .inl ⟨h1, route_ram h1⟩
  by_cases h2 : a.toNat < 0x4000
  · exact .inr (.inl ⟨by omega, h2, route_ppu (by omega) h2⟩)
  by_cases h3 : a = 0x4014#16
  · exact .inr (.inr (.inl ⟨h3, h3 ▸ route_dma⟩))
  by_cases h4 : a.toNat < 0x4018
  · exact .inr (.inr (.inr (.inl ⟨by omega, h4, h3, route_stub (by omega) h4 h3⟩)))
  · exact .inr (.inr (.inr (.inr ⟨by omega, route_cart (by omega)⟩)))

theorem stackAddr_toNat (sp : Byte) : (stackAddr sp).toNat = 0x100 + sp.toNat := by
  rw [stackAddr, wordOf_toNat]; rfl

theorem route_stackAddr (sp : Byte) : route (stackAddr sp) = .ram (0x100 + sp.toNat) := by
  have : sp.toNat < 256 := sp.isLt
  rw [route_ram (by rw [stackAddr_toNat]; omega), stackAddr_toNat, Nat.mod_eq_of_lt (by omega)]

/-! ### Reads: only the picture generator changes -/

variable (s : State)

theorem State.afterRead_eq (a : Addr) : s.afterRead a = s.setPpu (s.afterRead a).ppu := by
  simp only [State.afterRead]; split <;> rfl

theorem State.afterRead_of_not_inWindow {a : Addr} (h : inWindow a = false) : s.afterRead a = s := by
  obtain ⟨h1, hr⟩ | ⟨h1, h2, hr⟩ | ⟨h1, hr⟩ | ⟨h1, h2, h3, hr⟩ | ⟨h1, hr⟩ := route_cases a <;>
    simp [State.afterRead, hr]
  simp [inWindow] at h; omega

theorem State.peek_setPpu {a : Addr} (h : inWindow a = false) (u : Ppu) : (s.setPpu u).peek a = s.peek a := by
  obtain ⟨h1, hr⟩ | ⟨h1, h2, hr⟩ | ⟨h1, hr⟩ | ⟨h1, h2, h3, hr⟩ | ⟨h1, hr⟩ := route_cases a <;>
    simp [State.peek, hr]
  simp [inWindow] at h; omega

/-- A read answers `peek` and leaves `afterRead`. -/
@[simp] theorem State.busRead_fst (a : Addr) : (s.busRead a).1 = s.peek a := rfl
@[simp] theorem State.busRead_snd (a : Addr) : (s.busRead a).2 = s.afterRead a := rfl

@[simp] theorem State.setPpu_ppu_self (u : Ppu) : (s.setPpu u).ppu = u := rfl

theorem State.readWord_eq (a : Addr) :
    s.readWord a = (wordOf (s.peek a) ((s.afterRead a).peek (a + 1#16)), (s.afterRead a).afterRead (a + 1#16)) := rfl

theorem State.readWord_snd_eq (a : Addr) : (s.readWord a).2 = s.setPpu (s.readWord a).2.ppu := by
  simp only [State.readWord_eq]
  rw [State.afterRead_eq (s.afterRead a), State.afterRead_eq s]; rfl

theorem State.readWord_of_not_inWindow {a : Addr} (h : inWindow a = false) (h' : inWindow (a + 1#16) = false) :
    s.readWord a = (wordOf (s.peek a) (s.peek (a + 1#16)), s) := by
  simp [State.readWord_eq, State.afterRead_of_not_inWindow, h, h']

theorem State.readBytes_snd_eq (a : Addr) (n : Nat) : (s.readBytes a n).2 = s.setPpu (s.readBytes a n).2.ppu := by
  induction n generalizing s a with
  | zero => rfl
  | succ n ih =>
    show ((s.afterRead a).readBytes (a + 1#16) n).2 = s.setPpu ((s.afterRead a).readBytes (a + 1#16) n).2.ppu
    rw [ih, State.afterRead_eq]; rfl

@[simp] theorem State.readBytes_length (a : Addr) (n : Nat) : (s.readBytes a n).1.length = n := by
  induction n generalizing s a with
  | zero => rfl
  | succ n ih => exact congrArg (· + 1) (ih (s.afterRead a) (a + 1#16))

/-! ### Writes -/

theorem State.readBytes_setPpu_addTicks (a : Addr) (n : Nat) (u : Ppu) (k : Nat) :
    ((s.readBytes a n).2.setPpu u).addTicks k = (s.setPpu u).addTicks k := by
  rw [State.readBytes_snd_eq]; rfl

/-- The OAM DMA changes the picture generator and adds its cycles (20_memory.md R49). -/
theorem State.oamDma_eq (v : Byte) :
    s.oamDma v = (s.setPpu ((s.readBytes (wordOf 0#8 v) 256).2.ppu.oamBurst (s.readBytes (wordOf 0#8 v) 256).1)).addTicks
      (513 + s.tick % 2) :=
  s.readBytes_setPpu_addTicks _ _ _ _

theorem State.oamDma_self (v : Byte) : s.oamDma v = (s.setPpu (s.oamDma v).ppu).addTicks (513 + s.tick % 2) := by
  conv => lhs; rw [State.oamDma_eq]
  rw [State.oamDma_eq]; rfl

/-- A write changes RAM, the picture generator, the cartridge and, for a DMA, `tick`; nothing else. -/
theorem State.busWrite_eq (a : Addr) (v : Byte) :
    s.busWrite a v = (((s.setRam (s.busWrite a v).ram).setPpu (s.busWrite a v).ppu).setCart (s.busWrite a v).cart).addTicks
      (dmaCycles s.tick a) := by
  obtain ⟨h1, hr⟩ | ⟨h1, h2, hr⟩ | ⟨h1, hr⟩ | ⟨h1, h2, h3, hr⟩ | ⟨h1, hr⟩ := route_cases a
  case inr.inr.inl =>
    simp only [State.busWrite, hr]
    have h := s.oamDma_self v
    generalize s.oamDma v = t at h
    rw [h, dmaCycles, if_pos h1]; rfl
  all_goals
    have h4 : a ≠ 0x4014#16 := by
      rintro rfl
      first | exact absurd rfl ‹_› | exact absurd h1 (by decide) | exact absurd h2 (by decide)
    simp only [State.busWrite, hr, dmaCycles, if_neg h4]; rfl

theorem State.push_eq (v : Byte) :
    s.push v = (s.setSp (s.sp - 1#8)).setRam (Memory.write s.ram (0x100 + (s.sp - 1#8).toNat) v) := by
  simp [State.push, State.busWrite, route_stackAddr]

theorem State.pull_eq : s.pull = (Memory.read s.ram (0x100 + s.sp.toNat), s.setSp (s.sp + 1#8)) := by
  simp [State.pull, State.busRead, State.peek, State.afterRead, route_stackAddr]

/-- What `PushWord` leaves: SP two lower, the high byte above the low byte. -/
theorem State.pushWord_eq (w : Addr) :
    s.pushWord w = (s.setSp (s.sp - 1#8 - 1#8)).setRam
      (Memory.write (Memory.write s.ram (0x100 + (s.sp - 1#8).toNat) (hiByte w)) (0x100 + (s.sp - 1#8 - 1#8).toNat) (loByte w)) := by
  simp only [State.pushWord, State.push_eq]; rfl

theorem State.pullWord_eq :
    s.pullWord = (wordOf (Memory.read s.ram (0x100 + s.sp.toNat)) (Memory.read s.ram (0x100 + (s.sp + 1#8).toNat)),
      s.setSp (s.sp + 1#8 + 1#8)) := by
  simp only [State.pullWord, State.pull_eq]; rfl

/-! ### Interrupts and RESET -/

/-- A word of cartridge space, read twice without effect. -/
theorem State.readWord_cart {a : Addr} (h : 0x4018 ≤ a.toNat) (h' : a.toNat < 0xFFFF) :
    s.readWord a = (wordOf (s.cart.read a) (s.cart.read (a + 1#16)), s) := by
  have h1 : (a + 1#16).toNat = a.toNat + 1 := by simp [BitVec.toNat_add]; omega
  have w1 : inWindow a = false := by simp [inWindow]; omega
  have w2 : inWindow (a + 1#16) = false := by simp only [inWindow, h1]; simp; omega
  rw [State.readWord_of_not_inWindow s w1 w2]
  simp [State.peek, route_cart h, route_cart (a := a + 1#16) (by omega)]

/-- What an entry leaves: three bytes pushed, I set, PC from the vector (60_exceptions.md R174). -/
theorem State.enterVia_eq (ret : Addr) (pushed : Byte) {vector : Addr} (h : 0x4018 ≤ vector.toNat)
    (h' : vector.toNat < 0xFFFF) :
    s.enterVia ret pushed vector =
      (((s.pushWord ret).push pushed).setFlag .i true).setPc (wordOf (s.cart.read vector) (s.cart.read (vector + 1#16))) := by
  simp only [State.enterVia, State.readWord_cart _ h h', State.setFlag_cart, State.pushWord_eq, State.push_eq,
    State.setRam_cart, State.setSp_cart]

/-- What RESET leaves (60_exceptions.md R179). -/
theorem State.resetSequence_eq :
    s.resetSequence = { s with
      a := 0#8, x := 0#8, y := 0#8, p := 0x34#8, sp := s.sp - 3#8, pc := wordOf (s.cart.read 0xFFFC#16) (s.cart.read 0xFFFD#16),
      resetReq := false, nmiPending := false } := by
  simp only [State.resetSequence]
  rw [State.readWord_cart _ (by decide) (by decide)]; rfl

/-- What RTI leaves (44_control_flow.md R158). -/
theorem State.returnFromInterrupt_eq :
    s.returnFromInterrupt = { s with
      p := Memory.read s.ram (0x100 + s.sp.toNat), sp := s.sp + 1#8 + 1#8 + 1#8,
      pc := wordOf (Memory.read s.ram (0x100 + (s.sp + 1#8).toNat)) (Memory.read s.ram (0x100 + (s.sp + 1#8 + 1#8).toNat)) } := by
  simp only [State.returnFromInterrupt, State.pull_eq, State.pullWord_eq]; rfl

end Sys2Proof.Machine
end

