-- ==== Sys2Proof/Laws/Exec.lean ====
section
/-! SUPPORT. The resolver and the operand accesses, one lemma each, and the one fact about `exec` that all others use: the meaning
of every instruction is the `Step` body of 40_engine.md R86 with the instruction's row of the table. -/

namespace Sys2Proof.Machine

/-- `Execute(op, mode, EA)` of 40_engine.md R86. -/
def Op.body : Op → EA → State → State
  | .lda => fun ea s => s.opLda ea
  | .ldx => fun ea s => s.opLdx ea
  | .ldy => fun ea s => s.opLdy ea
  | .sta => fun ea s => s.opSta ea
  | .stx => fun ea s => s.opStx ea
  | .sty => fun ea s => s.opSty ea
  | .tax => fun ea s => s.opTax ea
  | .tay => fun ea s => s.opTay ea
  | .txa => fun ea s => s.opTxa ea
  | .tya => fun ea s => s.opTya ea
  | .tsx => fun ea s => s.opTsx ea
  | .txs => fun ea s => s.opTxs ea
  | .adc => fun ea s => s.opAdc ea
  | .sbc => fun ea s => s.opSbc ea
  | .cmp => fun ea s => s.opCmp ea
  | .cpx => fun ea s => s.opCpx ea
  | .cpy => fun ea s => s.opCpy ea
  | .inc => fun ea s => s.opInc ea
  | .dec => fun ea s => s.opDec ea
  | .inx => fun ea s => s.opInx ea
  | .iny => fun ea s => s.opIny ea
  | .dex => fun ea s => s.opDex ea
  | .dey => fun ea s => s.opDey ea
  | .and => fun ea s => s.opAnd ea
  | .ora => fun ea s => s.opOra ea
  | .eor => fun ea s => s.opEor ea
  | .bit => fun ea s => s.opBit ea
  | .asl => fun ea s => s.opAsl ea
  | .lsr => fun ea s => s.opLsr ea
  | .rol => fun ea s => s.opRol ea
  | .ror => fun ea s => s.opRor ea
  | .bpl => fun ea s => s.opBpl ea
  | .bmi => fun ea s => s.opBmi ea
  | .bvc => fun ea s => s.opBvc ea
  | .bvs => fun ea s => s.opBvs ea
  | .bcc => fun ea s => s.opBcc ea
  | .bcs => fun ea s => s.opBcs ea
  | .bne => fun ea s => s.opBne ea
  | .beq => fun ea s => s.opBeq ea
  | .jmp => fun ea s => s.opJmp ea
  | .jsr => fun ea s => s.opJsr ea
  | .rts => fun ea s => s.opRts ea
  | .brk => fun ea s => s.opBrk ea
  | .rti => fun ea s => s.opRti ea
  | .pha => fun ea s => s.opPha ea
  | .php => fun ea s => s.opPhp ea
  | .pla => fun ea s => s.opPla ea
  | .plp => fun ea s => s.opPlp ea
  | .clc => fun ea s => s.opClc ea
  | .cld => fun ea s => s.opCld ea
  | .cli => fun ea s => s.opCli ea
  | .clv => fun ea s => s.opClv ea
  | .sec => fun ea s => s.opSec ea
  | .sed => fun ea s => s.opSed ea
  | .sei => fun ea s => s.opSei ea
  | .nop => fun ea s => s.opNop ea
  | .kil => fun ea s => s.opKil ea

/-- The meaning of every instruction, from its row of the table. -/
theorem exec_eq (i : Instr) (s : State) :
    exec i s = instruction i.entry.mode i.entry.base i.entry.pen i.operand (Op.body i.entry.op) s := by
  cases i <;> simp only [Instr.entry, Instr.opcode, Instr.operand, encode, List.headD, wordOf_lo_hi] <;> rfl

/-- The state every instruction ends in, when its row is `e` and its operand `w`. -/
def State.after (s : State) (e : Entry) (w : Addr) : State :=
  let r := s.resolve e.mode w
  (Op.body e.op r.ea (r.state.setPc (s.pc + BitVec.ofNat 16 e.mode.length))).addTicks (e.base + if e.pen && r.cross then 1 else 0)

theorem exec_eq_after (i : Instr) (s : State) : exec i s = .next (s.after i.entry i.operand) := exec_eq i s

end Sys2Proof.Machine
end

