-- ==== Sys2Proof/Laws/Flags.lean ====
section
/-! SUPPORT. The flags: reading one after writing one, and what each flag computation leaves. -/

namespace Sys2Proof.Machine

/-- Writing a flag changes that flag alone. -/
@[simp] theorem testFlag_withFlag (p : Byte) (f g : Flag) (v : Bool) :
    testFlag (withFlag p f v) g = if f = g then v else testFlag p g := by
  cases f <;> cases g <;> cases v <;> simp [testFlag, withFlag, Flag.mask, Flag.bit]

/-- A status byte is its eight flags. -/
theorem status_ext {p q : Byte} (h : ∀ f, testFlag p f = testFlag q f) : p = q := by
  apply BitVec.eq_of_getLsbD_eq
  intro k hk
  match k, hk with
  | 0, _ => exact h .c
  | 1, _ => exact h .z
  | 2, _ => exact h .i
  | 3, _ => exact h .d
  | 4, _ => exact h .b
  | 5, _ => exact h .u
  | 6, _ => exact h .v
  | 7, _ => exact h .n
  | k + 8, hk => omega

theorem withFlag_i_true (p : Byte) : withFlag p .i true = p ||| 0x04#8 := rfl
theorem withFlag_b_true (p : Byte) : withFlag p .b true = p ||| 0x10#8 := rfl
theorem withFlag_b_false (p : Byte) : withFlag p .b false = p &&& 0xEF#8 := rfl

variable (s : State)

@[simp] theorem State.flag_setFlag (f g : Flag) (v : Bool) : (s.setFlag f v).flag g = if f = g then v else s.flag g := by
  simp [State.flag]

theorem State.flag_setZN (v : Byte) (g : Flag) :
    (s.setZN v).flag g = if g = .n then v.getLsbD 7 else if g = .z then v == 0#8 else s.flag g := by
  cases g <;> simp [State.setZN]

/-- Z and N after `SetZN`, as numbers (10_state.md R28). -/
theorem State.setZN_ZN (v : Byte) :
    (s.setZN v).flag .z = decide (v.toNat = 0) ∧ (s.setZN v).flag .n = decide (128 ≤ v.toNat) := by
  constructor
  · simp only [State.flag_setZN, reduceCtorEq, if_false, if_true]
    rw [Bool.eq_iff_iff]; simp [← BitVec.toNat_inj]
  · simp only [State.flag_setZN, if_true]
    exact BitVec.msb_eq_decide v

theorem State.flag_compare (r m : Byte) (g : Flag) :
    (s.compare r m).flag g = if g = .n then (r - m).getLsbD 7 else if g = .z then r == m
      else if g = .c then decide (m.toNat ≤ r.toNat) else s.flag g := by
  cases g <;> simp [State.compare]

theorem State.flag_testBits (m : Byte) (g : Flag) :
    (s.testBits m).flag g = if g = .v then m.getLsbD 6 else if g = .n then m.getLsbD 7
      else if g = .z then (s.a &&& m) == 0#8 else s.flag g := by
  cases g <;> simp [State.testBits]

theorem State.flag_setA (v : Byte) (g : Flag) : (s.setA v).flag g = s.flag g := rfl

theorem State.flag_addWithCarry (m : Byte) (g : Flag) :
    (s.addWithCarry m).flag g =
      if g = .n then (BitVec.ofNat 8 (adcSum s.a m (s.flag .c))).getLsbD 7
      else if g = .z then BitVec.ofNat 8 (adcSum s.a m (s.flag .c)) == 0#8
      else if g = .c then decide (0xFF < adcSum s.a m (s.flag .c))
      else if g = .v then adcOverflow s.a m (s.flag .c) else s.flag g := by
  cases g <;> simp [State.addWithCarry, State.flag_setZN, State.flag_setA]

end Sys2Proof.Machine
end

