-- ==== Sys2Proof/Laws/Operands.lean ====
section
/-! SUPPORT. The resolver and the operand accesses: what each can change. -/

namespace Sys2Proof.Machine

variable (s : State)

theorem zeroPage_not_inWindow (z : Byte) : inWindow (zext16 z) = false := by
  have : z.toNat < 256 := z.isLt
  have h := zext16_toNat z
  simp [inWindow]; omega

theorem zeroPage_next_not_inWindow (z : Byte) : inWindow (zext16 z + 1#16) = false := by
  have : z.toNat < 256 := z.isLt
  have h := zext16_toNat z
  have : (zext16 z + 1#16).toNat = z.toNat + 1 := by rw [BitVec.toNat_add, h]; simp; omega
  simp [inWindow]; omega

/-- A pointer in the zero page is read from RAM, without effect (40_engine.md R103, R104). -/
theorem State.readPointer_eq (z : Byte) :
    s.readPointer z = (wordOf (s.peek (zext16 z))
      (s.peek (if s.params.zpPtrWrap then zext16 (z + 1#8) else zext16 z + 1#16)), s) := by
  simp only [State.readPointer, State.busRead, State.afterRead_of_not_inWindow _ (zeroPage_not_inWindow z)]
  split <;> simp [State.afterRead_of_not_inWindow, zeroPage_not_inWindow, zeroPage_next_not_inWindow]

theorem State.readIndirect_snd_eq (w : Addr) : (s.readIndirect w).2 = s.setPpu (s.readIndirect w).2.ppu := by
  simp only [State.readIndirect, State.busRead]
  rw [State.afterRead_eq (s.afterRead w), State.afterRead_eq s]; rfl

/-- Resolving changes the picture generator at most, and only JMP (ind) can. -/
theorem State.resolve_state_of_ne_ind {m : Mode} (h : m ≠ .ind) (w : Addr) : (s.resolve m w).state = s := by
  cases m <;> first | exact absurd rfl h | (simp only [State.resolve, State.readPointer_eq])

theorem State.resolve_state_eq (m : Mode) (w : Addr) :
    (s.resolve m w).state = s.setPpu (s.resolve m w).state.ppu := by
  by_cases h : m = .ind
  · subst h; exact s.readIndirect_snd_eq w
  · rw [State.resolve_state_of_ne_ind s h]; rfl

theorem State.readOperand_snd_eq (ea : EA) : (s.readOperand ea).2 = s.setPpu (s.readOperand ea).2.ppu := by
  cases ea with
  | implied => rfl
  | imm a v => rfl
  | mem a => exact s.afterRead_eq a

/-- An operand write changes A (for the sentinel), or what a bus write changes. -/
theorem State.writeOperand_eq (ea : EA) (v : Byte) :
    s.writeOperand ea v = match ea.address? with
      | none => s.setA v
      | some a => s.busWrite a v := by
  cases ea <;> rfl

end Sys2Proof.Machine
end

