-- ==== Sys2Proof/Laws/Fields.lean ====
section
/-! SUPPORT. What each shared operation leaves of each field it does not write, and how a read of memory sees the writes. -/

namespace Sys2Proof.Machine

variable (s : State)

@[simp] theorem State.afterRead_a (a : Addr) : (s.afterRead a).a = s.a := by
  rw [State.afterRead_eq]; rfl
@[simp] theorem State.afterRead_x (a : Addr) : (s.afterRead a).x = s.x := by
  rw [State.afterRead_eq]; rfl
@[simp] theorem State.afterRead_y (a : Addr) : (s.afterRead a).y = s.y := by
  rw [State.afterRead_eq]; rfl
@[simp] theorem State.afterRead_sp (a : Addr) : (s.afterRead a).sp = s.sp := by
  rw [State.afterRead_eq]; rfl
@[simp] theorem State.afterRead_p (a : Addr) : (s.afterRead a).p = s.p := by
  rw [State.afterRead_eq]; rfl
@[simp] theorem State.afterRead_pc (a : Addr) : (s.afterRead a).pc = s.pc := by
  rw [State.afterRead_eq]; rfl
@[simp] theorem State.afterRead_ram (a : Addr) : (s.afterRead a).ram = s.ram := by
  rw [State.afterRead_eq]; rfl
@[simp] theorem State.afterRead_tick (a : Addr) : (s.afterRead a).tick = s.tick := by
  rw [State.afterRead_eq]; rfl
@[simp] theorem State.afterRead_resetReq (a : Addr) : (s.afterRead a).resetReq = s.resetReq := by
  rw [State.afterRead_eq]; rfl
@[simp] theorem State.afterRead_nmiPending (a : Addr) : (s.afterRead a).nmiPending = s.nmiPending := by
  rw [State.afterRead_eq]; rfl
@[simp] theorem State.afterRead_irqLine (a : Addr) : (s.afterRead a).irqLine = s.irqLine := by
  rw [State.afterRead_eq]; rfl
@[simp] theorem State.afterRead_cart (a : Addr) : (s.afterRead a).cart = s.cart := by
  rw [State.afterRead_eq]; rfl
@[simp] theorem State.afterRead_params (a : Addr) : (s.afterRead a).params = s.params := by
  rw [State.afterRead_eq]; rfl
@[simp] theorem State.afterRead_frame (a : Addr) : (s.afterRead a).frame = s.frame := by
  rw [State.afterRead_eq]; rfl

@[simp] theorem State.readOperand_a (ea : EA) : ((s.readOperand ea).2).a = s.a := by
  rw [State.readOperand_snd_eq]; rfl
@[simp] theorem State.readOperand_x (ea : EA) : ((s.readOperand ea).2).x = s.x := by
  rw [State.readOperand_snd_eq]; rfl
@[simp] theorem State.readOperand_y (ea : EA) : ((s.readOperand ea).2).y = s.y := by
  rw [State.readOperand_snd_eq]; rfl
@[simp] theorem State.readOperand_sp (ea : EA) : ((s.readOperand ea).2).sp = s.sp := by
  rw [State.readOperand_snd_eq]; rfl
@[simp] theorem State.readOperand_p (ea : EA) : ((s.readOperand ea).2).p = s.p := by
  rw [State.readOperand_snd_eq]; rfl
@[simp] theorem State.readOperand_pc (ea : EA) : ((s.readOperand ea).2).pc = s.pc := by
  rw [State.readOperand_snd_eq]; rfl
@[simp] theorem State.readOperand_ram (ea : EA) : ((s.readOperand ea).2).ram = s.ram := by
  rw [State.readOperand_snd_eq]; rfl
@[simp] theorem State.readOperand_tick (ea : EA) : ((s.readOperand ea).2).tick = s.tick := by
  rw [State.readOperand_snd_eq]; rfl
@[simp] theorem State.readOperand_resetReq (ea : EA) : ((s.readOperand ea).2).resetReq = s.resetReq := by
  rw [State.readOperand_snd_eq]; rfl
@[simp] theorem State.readOperand_nmiPending (ea : EA) : ((s.readOperand ea).2).nmiPending = s.nmiPending := by
  rw [State.readOperand_snd_eq]; rfl
@[simp] theorem State.readOperand_irqLine (ea : EA) : ((s.readOperand ea).2).irqLine = s.irqLine := by
  rw [State.readOperand_snd_eq]; rfl
@[simp] theorem State.readOperand_cart (ea : EA) : ((s.readOperand ea).2).cart = s.cart := by
  rw [State.readOperand_snd_eq]; rfl
@[simp] theorem State.readOperand_params (ea : EA) : ((s.readOperand ea).2).params = s.params := by
  rw [State.readOperand_snd_eq]; rfl
@[simp] theorem State.readOperand_frame (ea : EA) : ((s.readOperand ea).2).frame = s.frame := by
  rw [State.readOperand_snd_eq]; rfl

@[simp] theorem State.resolve_a (m : Mode) (w : Addr) : ((s.resolve m w).state).a = s.a := by
  rw [State.resolve_state_eq]; rfl
@[simp] theorem State.resolve_x (m : Mode) (w : Addr) : ((s.resolve m w).state).x = s.x := by
  rw [State.resolve_state_eq]; rfl
@[simp] theorem State.resolve_y (m : Mode) (w : Addr) : ((s.resolve m w).state).y = s.y := by
  rw [State.resolve_state_eq]; rfl
@[simp] theorem State.resolve_sp (m : Mode) (w : Addr) : ((s.resolve m w).state).sp = s.sp := by
  rw [State.resolve_state_eq]; rfl
@[simp] theorem State.resolve_p (m : Mode) (w : Addr) : ((s.resolve m w).state).p = s.p := by
  rw [State.resolve_state_eq]; rfl
@[simp] theorem State.resolve_pc (m : Mode) (w : Addr) : ((s.resolve m w).state).pc = s.pc := by
  rw [State.resolve_state_eq]; rfl
@[simp] theorem State.resolve_ram (m : Mode) (w : Addr) : ((s.resolve m w).state).ram = s.ram := by
  rw [State.resolve_state_eq]; rfl
@[simp] theorem State.resolve_tick (m : Mode) (w : Addr) : ((s.resolve m w).state).tick = s.tick := by
  rw [State.resolve_state_eq]; rfl
@[simp] theorem State.resolve_resetReq (m : Mode) (w : Addr) : ((s.resolve m w).state).resetReq = s.resetReq := by
  rw [State.resolve_state_eq]; rfl
@[simp] theorem State.resolve_nmiPending (m : Mode) (w : Addr) : ((s.resolve m w).state).nmiPending = s.nmiPending := by
  rw [State.resolve_state_eq]; rfl
@[simp] theorem State.resolve_irqLine (m : Mode) (w : Addr) : ((s.resolve m w).state).irqLine = s.irqLine := by
  rw [State.resolve_state_eq]; rfl
@[simp] theorem State.resolve_cart (m : Mode) (w : Addr) : ((s.resolve m w).state).cart = s.cart := by
  rw [State.resolve_state_eq]; rfl
@[simp] theorem State.resolve_params (m : Mode) (w : Addr) : ((s.resolve m w).state).params = s.params := by
  rw [State.resolve_state_eq]; rfl
@[simp] theorem State.resolve_frame (m : Mode) (w : Addr) : ((s.resolve m w).state).frame = s.frame := by
  rw [State.resolve_state_eq]; rfl

@[simp] theorem State.busWrite_a (a : Addr) (v : Byte) : (s.busWrite a v).a = s.a := by
  rw [State.busWrite_eq]; rfl
@[simp] theorem State.busWrite_x (a : Addr) (v : Byte) : (s.busWrite a v).x = s.x := by
  rw [State.busWrite_eq]; rfl
@[simp] theorem State.busWrite_y (a : Addr) (v : Byte) : (s.busWrite a v).y = s.y := by
  rw [State.busWrite_eq]; rfl
@[simp] theorem State.busWrite_sp (a : Addr) (v : Byte) : (s.busWrite a v).sp = s.sp := by
  rw [State.busWrite_eq]; rfl
@[simp] theorem State.busWrite_p (a : Addr) (v : Byte) : (s.busWrite a v).p = s.p := by
  rw [State.busWrite_eq]; rfl
@[simp] theorem State.busWrite_pc (a : Addr) (v : Byte) : (s.busWrite a v).pc = s.pc := by
  rw [State.busWrite_eq]; rfl
@[simp] theorem State.busWrite_resetReq (a : Addr) (v : Byte) : (s.busWrite a v).resetReq = s.resetReq := by
  rw [State.busWrite_eq]; rfl
@[simp] theorem State.busWrite_nmiPending (a : Addr) (v : Byte) : (s.busWrite a v).nmiPending = s.nmiPending := by
  rw [State.busWrite_eq]; rfl
@[simp] theorem State.busWrite_irqLine (a : Addr) (v : Byte) : (s.busWrite a v).irqLine = s.irqLine := by
  rw [State.busWrite_eq]; rfl
@[simp] theorem State.busWrite_params (a : Addr) (v : Byte) : (s.busWrite a v).params = s.params := by
  rw [State.busWrite_eq]; rfl
@[simp] theorem State.busWrite_frame (a : Addr) (v : Byte) : (s.busWrite a v).frame = s.frame := by
  rw [State.busWrite_eq]; rfl

@[simp] theorem State.busWrite_tick (a : Addr) (v : Byte) : (s.busWrite a v).tick = s.tick + dmaCycles s.tick a := by
  rw [State.busWrite_eq]; rfl

@[simp] theorem State.push_a (v : Byte) : (s.push v).a = s.a := by
  rw [State.push_eq]; rfl
@[simp] theorem State.push_x (v : Byte) : (s.push v).x = s.x := by
  rw [State.push_eq]; rfl
@[simp] theorem State.push_y (v : Byte) : (s.push v).y = s.y := by
  rw [State.push_eq]; rfl
@[simp] theorem State.push_p (v : Byte) : (s.push v).p = s.p := by
  rw [State.push_eq]; rfl
@[simp] theorem State.push_pc (v : Byte) : (s.push v).pc = s.pc := by
  rw [State.push_eq]; rfl
@[simp] theorem State.push_tick (v : Byte) : (s.push v).tick = s.tick := by
  rw [State.push_eq]; rfl
@[simp] theorem State.push_resetReq (v : Byte) : (s.push v).resetReq = s.resetReq := by
  rw [State.push_eq]; rfl
@[simp] theorem State.push_nmiPending (v : Byte) : (s.push v).nmiPending = s.nmiPending := by
  rw [State.push_eq]; rfl
@[simp] theorem State.push_irqLine (v : Byte) : (s.push v).irqLine = s.irqLine := by
  rw [State.push_eq]; rfl
@[simp] theorem State.push_cart (v : Byte) : (s.push v).cart = s.cart := by
  rw [State.push_eq]; rfl
@[simp] theorem State.push_ppu (v : Byte) : (s.push v).ppu = s.ppu := by
  rw [State.push_eq]; rfl
@[simp] theorem State.push_params (v : Byte) : (s.push v).params = s.params := by
  rw [State.push_eq]; rfl
@[simp] theorem State.push_frame (v : Byte) : (s.push v).frame = s.frame := by
  rw [State.push_eq]; rfl

@[simp] theorem State.push_sp (v : Byte) : (s.push v).sp = s.sp - 1#8 := by
  rw [State.push_eq]; rfl

@[simp] theorem State.pushWord_a (w : Addr) : (s.pushWord w).a = s.a := by
  rw [State.pushWord_eq]; rfl
@[simp] theorem State.pushWord_x (w : Addr) : (s.pushWord w).x = s.x := by
  rw [State.pushWord_eq]; rfl
@[simp] theorem State.pushWord_y (w : Addr) : (s.pushWord w).y = s.y := by
  rw [State.pushWord_eq]; rfl
@[simp] theorem State.pushWord_p (w : Addr) : (s.pushWord w).p = s.p := by
  rw [State.pushWord_eq]; rfl
@[simp] theorem State.pushWord_pc (w : Addr) : (s.pushWord w).pc = s.pc := by
  rw [State.pushWord_eq]; rfl
@[simp] theorem State.pushWord_tick (w : Addr) : (s.pushWord w).tick = s.tick := by
  rw [State.pushWord_eq]; rfl
@[simp] theorem State.pushWord_resetReq (w : Addr) : (s.pushWord w).resetReq = s.resetReq := by
  rw [State.pushWord_eq]; rfl
@[simp] theorem State.pushWord_nmiPending (w : Addr) : (s.pushWord w).nmiPending = s.nmiPending := by
  rw [State.pushWord_eq]; rfl
@[simp] theorem State.pushWord_irqLine (w : Addr) : (s.pushWord w).irqLine = s.irqLine := by
  rw [State.pushWord_eq]; rfl
@[simp] theorem State.pushWord_cart (w : Addr) : (s.pushWord w).cart = s.cart := by
  rw [State.pushWord_eq]; rfl
@[simp] theorem State.pushWord_ppu (w : Addr) : (s.pushWord w).ppu = s.ppu := by
  rw [State.pushWord_eq]; rfl
@[simp] theorem State.pushWord_params (w : Addr) : (s.pushWord w).params = s.params := by
  rw [State.pushWord_eq]; rfl
@[simp] theorem State.pushWord_frame (w : Addr) : (s.pushWord w).frame = s.frame := by
  rw [State.pushWord_eq]; rfl

@[simp] theorem State.pull_a : (s.pull.2).a = s.a := by
  rw [State.pull_eq]; rfl
@[simp] theorem State.pull_x : (s.pull.2).x = s.x := by
  rw [State.pull_eq]; rfl
@[simp] theorem State.pull_y : (s.pull.2).y = s.y := by
  rw [State.pull_eq]; rfl
@[simp] theorem State.pull_p : (s.pull.2).p = s.p := by
  rw [State.pull_eq]; rfl
@[simp] theorem State.pull_pc : (s.pull.2).pc = s.pc := by
  rw [State.pull_eq]; rfl
@[simp] theorem State.pull_ram : (s.pull.2).ram = s.ram := by
  rw [State.pull_eq]; rfl
@[simp] theorem State.pull_tick : (s.pull.2).tick = s.tick := by
  rw [State.pull_eq]; rfl
@[simp] theorem State.pull_resetReq : (s.pull.2).resetReq = s.resetReq := by
  rw [State.pull_eq]; rfl
@[simp] theorem State.pull_nmiPending : (s.pull.2).nmiPending = s.nmiPending := by
  rw [State.pull_eq]; rfl
@[simp] theorem State.pull_irqLine : (s.pull.2).irqLine = s.irqLine := by
  rw [State.pull_eq]; rfl
@[simp] theorem State.pull_cart : (s.pull.2).cart = s.cart := by
  rw [State.pull_eq]; rfl
@[simp] theorem State.pull_ppu : (s.pull.2).ppu = s.ppu := by
  rw [State.pull_eq]; rfl
@[simp] theorem State.pull_params : (s.pull.2).params = s.params := by
  rw [State.pull_eq]; rfl
@[simp] theorem State.pull_frame : (s.pull.2).frame = s.frame := by
  rw [State.pull_eq]; rfl

@[simp] theorem State.pullWord_a : (s.pullWord.2).a = s.a := by
  rw [State.pullWord_eq]; rfl
@[simp] theorem State.pullWord_x : (s.pullWord.2).x = s.x := by
  rw [State.pullWord_eq]; rfl
@[simp] theorem State.pullWord_y : (s.pullWord.2).y = s.y := by
  rw [State.pullWord_eq]; rfl
@[simp] theorem State.pullWord_p : (s.pullWord.2).p = s.p := by
  rw [State.pullWord_eq]; rfl
@[simp] theorem State.pullWord_pc : (s.pullWord.2).pc = s.pc := by
  rw [State.pullWord_eq]; rfl
@[simp] theorem State.pullWord_ram : (s.pullWord.2).ram = s.ram := by
  rw [State.pullWord_eq]; rfl
@[simp] theorem State.pullWord_tick : (s.pullWord.2).tick = s.tick := by
  rw [State.pullWord_eq]; rfl
@[simp] theorem State.pullWord_resetReq : (s.pullWord.2).resetReq = s.resetReq := by
  rw [State.pullWord_eq]; rfl
@[simp] theorem State.pullWord_nmiPending : (s.pullWord.2).nmiPending = s.nmiPending := by
  rw [State.pullWord_eq]; rfl
@[simp] theorem State.pullWord_irqLine : (s.pullWord.2).irqLine = s.irqLine := by
  rw [State.pullWord_eq]; rfl
@[simp] theorem State.pullWord_cart : (s.pullWord.2).cart = s.cart := by
  rw [State.pullWord_eq]; rfl
@[simp] theorem State.pullWord_ppu : (s.pullWord.2).ppu = s.ppu := by
  rw [State.pullWord_eq]; rfl
@[simp] theorem State.pullWord_params : (s.pullWord.2).params = s.params := by
  rw [State.pullWord_eq]; rfl
@[simp] theorem State.pullWord_frame : (s.pullWord.2).frame = s.frame := by
  rw [State.pullWord_eq]; rfl

end Sys2Proof.Machine
end

