-- ==== Sys2Proof/Laws/Frames.lean ====
section
/-! SUPPORT. What a read of memory depends on, what the claims' frames come down to, and that the writing operations keep the
invariant. -/

namespace Sys2Proof.Machine

/-- Outside the window a read depends on RAM and the cartridge alone. -/
theorem State.peek_congr {s t : State} (h : t.ram = s.ram) (h' : t.cart = s.cart) {b : Addr} (hb : inWindow b = false) :
    t.peek b = s.peek b := by
  obtain ⟨h1, hr⟩ | ⟨h1, h2, hr⟩ | ⟨h1, hr⟩ | ⟨h1, h2, h3, hr⟩ | ⟨h1, hr⟩ := route_cases b <;> simp [State.peek, hr, h, h']
  simp [inWindow] at hb; omega

/-- A read depends on RAM, the cartridge and the picture generator alone. -/
theorem State.peek_congr_all {s t : State} (h : t.ram = s.ram) (h' : t.cart = s.cart) (h'' : t.ppu = s.ppu) (b : Addr) :
    t.peek b = s.peek b := by
  simp [State.peek, h, h', h'']

theorem MemoryKept.of_eq {s t : State} (h : t.ram = s.ram) (h' : t.cart = s.cart) : MemoryKept s t :=
  ⟨h, h', fun _ hb => State.peek_congr h h' hb⟩

variable (s : State)

/-- Where PC stands does not matter to an operand read. -/
theorem State.readOperand_setPc (pc : Addr) (ea : EA) :
    (s.setPc pc).readOperand ea = ((s.readOperand ea).1, (s.readOperand ea).2.setPc pc) := by
  cases ea with
  | implied => rfl
  | imm a v => rfl
  | mem a =>
    simp only [State.readOperand, State.busRead]
    refine Prod.ext (State.peek_congr_all rfl rfl rfl a) ?_
    simp only [State.afterRead]; split <;> rfl

/-- Two addresses of one RAM cell are two RAM addresses that agree modulo $0800 (20_memory.md R45). -/
theorem sameRamCell_iff (a b : Addr) :
    sameRamCell a b = true ↔ a.toNat < 0x2000 ∧ b.toNat < 0x2000 ∧ a.toNat % 0x800 = b.toNat % 0x800 := by
  have h : ∀ a : Addr, (a &&& 0x07FF#16).toNat = a.toNat % 0x800 := by
    intro a; rw [BitVec.toNat_and]; exact Nat.and_two_pow_sub_one_eq_mod a.toNat 11
  simp [sameRamCell, ← BitVec.toNat_inj, h, and_assoc]

theorem State.Inv_iff : s.Inv = true ↔
    Memory.wf s.ram = true ∧ Memory.within 0 0x800 s.ram = true ∧ s.cart.wf = true := by
  simp [State.Inv, Bool.and_eq_true, and_assoc]

theorem State.Inv_of_eq {s t : State} (h : s.Inv = true) (h1 : t.ram = s.ram) (h2 : t.cart = s.cart) : t.Inv = true := by
  simpa [State.Inv, h1, h2] using h

theorem State.Inv_busWrite (a : Addr) (v : Byte) (h : s.Inv = true) : (s.busWrite a v).Inv = true := by
  have hi := s.Inv_iff.mp h
  obtain ⟨h1, hr⟩ | ⟨h1, h2, hr⟩ | ⟨h1, hr⟩ | ⟨h1, h2, h3, hr⟩ | ⟨h1, hr⟩ := route_cases a <;> simp only [State.busWrite, hr]
  · rw [State.Inv_iff]; simp only [State.setRam_ram, State.setRam_cart]
    exact ⟨Memory.wf_write _ _ hi.1, Memory.within_write _ (by omega) (by omega) hi.2.1, hi.2.2⟩
  · exact h
  · rw [State.oamDma_eq]; exact h
  · exact h
  · rw [State.Inv_iff]; simp only [State.setCart_ram, State.setCart_cart]
    exact ⟨hi.1, hi.2.1, Cart.wf_write _ _ hi.2.2⟩

theorem State.Inv_writeOperand (ea : EA) (v : Byte) (h : s.Inv = true) : (s.writeOperand ea v).Inv = true := by
  cases ea
  · exact h
  all_goals exact State.Inv_busWrite _ _ _ h

theorem State.Inv_push (v : Byte) (h : s.Inv = true) : (s.push v).Inv = true :=
  State.Inv_busWrite (s.setSp (s.sp - 1#8)) _ _ h

theorem State.Inv_pushWord (w : Addr) (h : s.Inv = true) : (s.pushWord w).Inv = true :=
  State.Inv_push _ _ (State.Inv_push _ _ h)

end Sys2Proof.Machine
end

