-- ==== Sys2Proof/Laws/PerInstr.lean ====
section
/-! SUPPORT. A fact about every instruction as a term, one lemma for each constructor. -/

namespace Sys2Proof.Laws.Encoded

/-- The bytes of an instruction are its opcode and exactly the operand bytes its row of the table consumes (30_encoding.md
R72). -/
def Statement (i : Instr) : Prop :=
  ∃ operands, encode i = i.opcode :: operands ∧ operands.length = i.entry.mode.operandBytes

theorem ldaIndX (op8 : Byte) : Statement (.ldaIndX op8) := 
  ⟨[op8], rfl, (by decide : 1 = (table 0xA1#8).mode.operandBytes)⟩
theorem ldaZp (op8 : Byte) : Statement (.ldaZp op8) := 
  ⟨[op8], rfl, (by decide : 1 = (table 0xA5#8).mode.operandBytes)⟩
theorem ldaImm (op8 : Byte) : Statement (.ldaImm op8) := 
  ⟨[op8], rfl, (by decide : 1 = (table 0xA9#8).mode.operandBytes)⟩
theorem ldaAbs (op16 : Addr) : Statement (.ldaAbs op16) := 
  ⟨[loByte op16, hiByte op16], rfl, (by decide : 2 = (table 0xAD#8).mode.operandBytes)⟩
theorem ldaIndY (op8 : Byte) : Statement (.ldaIndY op8) := 
  ⟨[op8], rfl, (by decide : 1 = (table 0xB1#8).mode.operandBytes)⟩
theorem ldaZpX (op8 : Byte) : Statement (.ldaZpX op8) := 
  ⟨[op8], rfl, (by decide : 1 = (table 0xB5#8).mode.operandBytes)⟩
theorem ldaAbsY (op16 : Addr) : Statement (.ldaAbsY op16) := 
  ⟨[loByte op16, hiByte op16], rfl, (by decide : 2 = (table 0xB9#8).mode.operandBytes)⟩
theorem ldaAbsX (op16 : Addr) : Statement (.ldaAbsX op16) := 
  ⟨[loByte op16, hiByte op16], rfl, (by decide : 2 = (table 0xBD#8).mode.operandBytes)⟩
theorem ldxImm (op8 : Byte) : Statement (.ldxImm op8) := 
  ⟨[op8], rfl, (by decide : 1 = (table 0xA2#8).mode.operandBytes)⟩
theorem ldxZp (op8 : Byte) : Statement (.ldxZp op8) := 
  ⟨[op8], rfl, (by decide : 1 = (table 0xA6#8).mode.operandBytes)⟩
theorem ldxAbs (op16 : Addr) : Statement (.ldxAbs op16) := 
  ⟨[loByte op16, hiByte op16], rfl, (by decide : 2 = (table 0xAE#8).mode.operandBytes)⟩
theorem ldxZpY (op8 : Byte) : Statement (.ldxZpY op8) := 
  ⟨[op8], rfl, (by decide : 1 = (table 0xB6#8).mode.operandBytes)⟩
theorem ldxAbsY (op16 : Addr) : Statement (.ldxAbsY op16) := 
  ⟨[loByte op16, hiByte op16], rfl, (by decide : 2 = (table 0xBE#8).mode.operandBytes)⟩
theorem ldyImm (op8 : Byte) : Statement (.ldyImm op8) := 
  ⟨[op8], rfl, (by decide : 1 = (table 0xA0#8).mode.operandBytes)⟩
theorem ldyZp (op8 : Byte) : Statement (.ldyZp op8) := 
  ⟨[op8], rfl, (by decide : 1 = (table 0xA4#8).mode.operandBytes)⟩
theorem ldyAbs (op16 : Addr) : Statement (.ldyAbs op16) := 
  ⟨[loByte op16, hiByte op16], rfl, (by decide : 2 = (table 0xAC#8).mode.operandBytes)⟩
theorem ldyZpX (op8 : Byte) : Statement (.ldyZpX op8) := 
  ⟨[op8], rfl, (by decide : 1 = (table 0xB4#8).mode.operandBytes)⟩
theorem ldyAbsX (op16 : Addr) : Statement (.ldyAbsX op16) := 
  ⟨[loByte op16, hiByte op16], rfl, (by decide : 2 = (table 0xBC#8).mode.operandBytes)⟩
theorem staIndX (op8 : Byte) : Statement (.staIndX op8) := 
  ⟨[op8], rfl, (by decide : 1 = (table 0x81#8).mode.operandBytes)⟩
theorem staZp (op8 : Byte) : Statement (.staZp op8) := 
  ⟨[op8], rfl, (by decide : 1 = (table 0x85#8).mode.operandBytes)⟩
theorem staAbs (op16 : Addr) : Statement (.staAbs op16) := 
  ⟨[loByte op16, hiByte op16], rfl, (by decide : 2 = (table 0x8D#8).mode.operandBytes)⟩
theorem staIndY (op8 : Byte) : Statement (.staIndY op8) := 
  ⟨[op8], rfl, (by decide : 1 = (table 0x91#8).mode.operandBytes)⟩
theorem staZpX (op8 : Byte) : Statement (.staZpX op8) := 
  ⟨[op8], rfl, (by decide : 1 = (table 0x95#8).mode.operandBytes)⟩
theorem staAbsY (op16 : Addr) : Statement (.staAbsY op16) := 
  ⟨[loByte op16, hiByte op16], rfl, (by decide : 2 = (table 0x99#8).mode.operandBytes)⟩
theorem staAbsX (op16 : Addr) : Statement (.staAbsX op16) := 
  ⟨[loByte op16, hiByte op16], rfl, (by decide : 2 = (table 0x9D#8).mode.operandBytes)⟩
theorem stxZp (op8 : Byte) : Statement (.stxZp op8) := 
  ⟨[op8], rfl, (by decide : 1 = (table 0x86#8).mode.operandBytes)⟩
theorem stxAbs (op16 : Addr) : Statement (.stxAbs op16) := 
  ⟨[loByte op16, hiByte op16], rfl, (by decide : 2 = (table 0x8E#8).mode.operandBytes)⟩
theorem stxZpY (op8 : Byte) : Statement (.stxZpY op8) := 
  ⟨[op8], rfl, (by decide : 1 = (table 0x96#8).mode.operandBytes)⟩
theorem styZp (op8 : Byte) : Statement (.styZp op8) := 
  ⟨[op8], rfl, (by decide : 1 = (table 0x84#8).mode.operandBytes)⟩
theorem styAbs (op16 : Addr) : Statement (.styAbs op16) := 
  ⟨[loByte op16, hiByte op16], rfl, (by decide : 2 = (table 0x8C#8).mode.operandBytes)⟩
theorem styZpX (op8 : Byte) : Statement (.styZpX op8) := 
  ⟨[op8], rfl, (by decide : 1 = (table 0x94#8).mode.operandBytes)⟩
theorem tax : Statement (.tax) := 
  ⟨[], rfl, (by decide : 0 = (table 0xAA#8).mode.operandBytes)⟩
theorem tay : Statement (.tay) := 
  ⟨[], rfl, (by decide : 0 = (table 0xA8#8).mode.operandBytes)⟩
theorem txa : Statement (.txa) := 
  ⟨[], rfl, (by decide : 0 = (table 0x8A#8).mode.operandBytes)⟩
theorem tya : Statement (.tya) := 
  ⟨[], rfl, (by decide : 0 = (table 0x98#8).mode.operandBytes)⟩
theorem tsx : Statement (.tsx) := 
  ⟨[], rfl, (by decide : 0 = (table 0xBA#8).mode.operandBytes)⟩
theorem txs : Statement (.txs) := 
  ⟨[], rfl, (by decide : 0 = (table 0x9A#8).mode.operandBytes)⟩
theorem adcIndX (op8 : Byte) : Statement (.adcIndX op8) := 
  ⟨[op8], rfl, (by decide : 1 = (table 0x61#8).mode.operandBytes)⟩
theorem adcZp (op8 : Byte) : Statement (.adcZp op8) := 
  ⟨[op8], rfl, (by decide : 1 = (table 0x65#8).mode.operandBytes)⟩
theorem adcImm (op8 : Byte) : Statement (.adcImm op8) := 
  ⟨[op8], rfl, (by decide : 1 = (table 0x69#8).mode.operandBytes)⟩
theorem adcAbs (op16 : Addr) : Statement (.adcAbs op16) := 
  ⟨[loByte op16, hiByte op16], rfl, (by decide : 2 = (table 0x6D#8).mode.operandBytes)⟩
theorem adcIndY (op8 : Byte) : Statement (.adcIndY op8) := 
  ⟨[op8], rfl, (by decide : 1 = (table 0x71#8).mode.operandBytes)⟩
theorem adcZpX (op8 : Byte) : Statement (.adcZpX op8) := 
  ⟨[op8], rfl, (by decide : 1 = (table 0x75#8).mode.operandBytes)⟩
theorem adcAbsY (op16 : Addr) : Statement (.adcAbsY op16) := 
  ⟨[loByte op16, hiByte op16], rfl, (by decide : 2 = (table 0x79#8).mode.operandBytes)⟩
theorem adcAbsX (op16 : Addr) : Statement (.adcAbsX op16) := 
  ⟨[loByte op16, hiByte op16], rfl, (by decide : 2 = (table 0x7D#8).mode.operandBytes)⟩
theorem sbcIndX (op8 : Byte) : Statement (.sbcIndX op8) := 
  ⟨[op8], rfl, (by decide : 1 = (table 0xE1#8).mode.operandBytes)⟩
theorem sbcZp (op8 : Byte) : Statement (.sbcZp op8) := 
  ⟨[op8], rfl, (by decide : 1 = (table 0xE5#8).mode.operandBytes)⟩
theorem sbcImm (op8 : Byte) : Statement (.sbcImm op8) := 
  ⟨[op8], rfl, (by decide : 1 = (table 0xE9#8).mode.operandBytes)⟩
theorem sbcAbs (op16 : Addr) : Statement (.sbcAbs op16) := 
  ⟨[loByte op16, hiByte op16], rfl, (by decide : 2 = (table 0xED#8).mode.operandBytes)⟩
theorem sbcIndY (op8 : Byte) : Statement (.sbcIndY op8) := 
  ⟨[op8], rfl, (by decide : 1 = (table 0xF1#8).mode.operandBytes)⟩
theorem sbcZpX (op8 : Byte) : Statement (.sbcZpX op8) := 
  ⟨[op8], rfl, (by decide : 1 = (table 0xF5#8).mode.operandBytes)⟩
theorem sbcAbsY (op16 : Addr) : Statement (.sbcAbsY op16) := 
  ⟨[loByte op16, hiByte op16], rfl, (by decide : 2 = (table 0xF9#8).mode.operandBytes)⟩
theorem sbcAbsX (op16 : Addr) : Statement (.sbcAbsX op16) := 
  ⟨[loByte op16, hiByte op16], rfl, (by decide : 2 = (table 0xFD#8).mode.operandBytes)⟩
theorem cmpIndX (op8 : Byte) : Statement (.cmpIndX op8) := 
  ⟨[op8], rfl, (by decide : 1 = (table 0xC1#8).mode.operandBytes)⟩
theorem cmpZp (op8 : Byte) : Statement (.cmpZp op8) := 
  ⟨[op8], rfl, (by decide : 1 = (table 0xC5#8).mode.operandBytes)⟩
theorem cmpImm (op8 : Byte) : Statement (.cmpImm op8) := 
  ⟨[op8], rfl, (by decide : 1 = (table 0xC9#8).mode.operandBytes)⟩
theorem cmpAbs (op16 : Addr) : Statement (.cmpAbs op16) := 
  ⟨[loByte op16, hiByte op16], rfl, (by decide : 2 = (table 0xCD#8).mode.operandBytes)⟩
theorem cmpIndY (op8 : Byte) : Statement (.cmpIndY op8) := 
  ⟨[op8], rfl, (by decide : 1 = (table 0xD1#8).mode.operandBytes)⟩
theorem cmpZpX (op8 : Byte) : Statement (.cmpZpX op8) := 
  ⟨[op8], rfl, (by decide : 1 = (table 0xD5#8).mode.operandBytes)⟩
theorem cmpAbsY (op16 : Addr) : Statement (.cmpAbsY op16) := 
  ⟨[loByte op16, hiByte op16], rfl, (by decide : 2 = (table 0xD9#8).mode.operandBytes)⟩
theorem cmpAbsX (op16 : Addr) : Statement (.cmpAbsX op16) := 
  ⟨[loByte op16, hiByte op16], rfl, (by decide : 2 = (table 0xDD#8).mode.operandBytes)⟩
theorem cpxImm (op8 : Byte) : Statement (.cpxImm op8) := 
  ⟨[op8], rfl, (by decide : 1 = (table 0xE0#8).mode.operandBytes)⟩
theorem cpxZp (op8 : Byte) : Statement (.cpxZp op8) := 
  ⟨[op8], rfl, (by decide : 1 = (table 0xE4#8).mode.operandBytes)⟩
theorem cpxAbs (op16 : Addr) : Statement (.cpxAbs op16) := 
  ⟨[loByte op16, hiByte op16], rfl, (by decide : 2 = (table 0xEC#8).mode.operandBytes)⟩
theorem cpyImm (op8 : Byte) : Statement (.cpyImm op8) := 
  ⟨[op8], rfl, (by decide : 1 = (table 0xC0#8).mode.operandBytes)⟩
theorem cpyZp (op8 : Byte) : Statement (.cpyZp op8) := 
  ⟨[op8], rfl, (by decide : 1 = (table 0xC4#8).mode.operandBytes)⟩
theorem cpyAbs (op16 : Addr) : Statement (.cpyAbs op16) := 
  ⟨[loByte op16, hiByte op16], rfl, (by decide : 2 = (table 0xCC#8).mode.operandBytes)⟩
theorem incZp (op8 : Byte) : Statement (.incZp op8) := 
  ⟨[op8], rfl, (by decide : 1 = (table 0xE6#8).mode.operandBytes)⟩
theorem incAbs (op16 : Addr) : Statement (.incAbs op16) := 
  ⟨[loByte op16, hiByte op16], rfl, (by decide : 2 = (table 0xEE#8).mode.operandBytes)⟩
theorem incZpX (op8 : Byte) : Statement (.incZpX op8) := 
  ⟨[op8], rfl, (by decide : 1 = (table 0xF6#8).mode.operandBytes)⟩
theorem incAbsX (op16 : Addr) : Statement (.incAbsX op16) := 
  ⟨[loByte op16, hiByte op16], rfl, (by decide : 2 = (table 0xFE#8).mode.operandBytes)⟩
theorem decZp (op8 : Byte) : Statement (.decZp op8) := 
  ⟨[op8], rfl, (by decide : 1 = (table 0xC6#8).mode.operandBytes)⟩
theorem decAbs (op16 : Addr) : Statement (.decAbs op16) := 
  ⟨[loByte op16, hiByte op16], rfl, (by decide : 2 = (table 0xCE#8).mode.operandBytes)⟩
theorem decZpX (op8 : Byte) : Statement (.decZpX op8) := 
  ⟨[op8], rfl, (by decide : 1 = (table 0xD6#8).mode.operandBytes)⟩
theorem decAbsX (op16 : Addr) : Statement (.decAbsX op16) := 
  ⟨[loByte op16, hiByte op16], rfl, (by decide : 2 = (table 0xDE#8).mode.operandBytes)⟩
theorem inx : Statement (.inx) := 
  ⟨[], rfl, (by decide : 0 = (table 0xE8#8).mode.operandBytes)⟩
theorem iny : Statement (.iny) := 
  ⟨[], rfl, (by decide : 0 = (table 0xC8#8).mode.operandBytes)⟩
theorem dex : Statement (.dex) := 
  ⟨[], rfl, (by decide : 0 = (table 0xCA#8).mode.operandBytes)⟩
theorem dey : Statement (.dey) := 
  ⟨[], rfl, (by decide : 0 = (table 0x88#8).mode.operandBytes)⟩
theorem andIndX (op8 : Byte) : Statement (.andIndX op8) := 
  ⟨[op8], rfl, (by decide : 1 = (table 0x21#8).mode.operandBytes)⟩
theorem andZp (op8 : Byte) : Statement (.andZp op8) := 
  ⟨[op8], rfl, (by decide : 1 = (table 0x25#8).mode.operandBytes)⟩
theorem andImm (op8 : Byte) : Statement (.andImm op8) := 
  ⟨[op8], rfl, (by decide : 1 = (table 0x29#8).mode.operandBytes)⟩
theorem andAbs (op16 : Addr) : Statement (.andAbs op16) := 
  ⟨[loByte op16, hiByte op16], rfl, (by decide : 2 = (table 0x2D#8).mode.operandBytes)⟩
theorem andIndY (op8 : Byte) : Statement (.andIndY op8) := 
  ⟨[op8], rfl, (by decide : 1 = (table 0x31#8).mode.operandBytes)⟩
theorem andZpX (op8 : Byte) : Statement (.andZpX op8) := 
  ⟨[op8], rfl, (by decide : 1 = (table 0x35#8).mode.operandBytes)⟩
theorem andAbsY (op16 : Addr) : Statement (.andAbsY op16) := 
  ⟨[loByte op16, hiByte op16], rfl, (by decide : 2 = (table 0x39#8).mode.operandBytes)⟩
theorem andAbsX (op16 : Addr) : Statement (.andAbsX op16) := 
  ⟨[loByte op16, hiByte op16], rfl, (by decide : 2 = (table 0x3D#8).mode.operandBytes)⟩
theorem oraIndX (op8 : Byte) : Statement (.oraIndX op8) := 
  ⟨[op8], rfl, (by decide : 1 = (table 0x01#8).mode.operandBytes)⟩
theorem oraZp (op8 : Byte) : Statement (.oraZp op8) := 
  ⟨[op8], rfl, (by decide : 1 = (table 0x05#8).mode.operandBytes)⟩
theorem oraImm (op8 : Byte) : Statement (.oraImm op8) := 
  ⟨[op8], rfl, (by decide : 1 = (table 0x09#8).mode.operandBytes)⟩
theorem oraAbs (op16 : Addr) : Statement (.oraAbs op16) := 
  ⟨[loByte op16, hiByte op16], rfl, (by decide : 2 = (table 0x0D#8).mode.operandBytes)⟩
theorem oraIndY (op8 : Byte) : Statement (.oraIndY op8) := 
  ⟨[op8], rfl, (by decide : 1 = (table 0x11#8).mode.operandBytes)⟩
theorem oraZpX (op8 : Byte) : Statement (.oraZpX op8) := 
  ⟨[op8], rfl, (by decide : 1 = (table 0x15#8).mode.operandBytes)⟩
theorem oraAbsY (op16 : Addr) : Statement (.oraAbsY op16) := 
  ⟨[loByte op16, hiByte op16], rfl, (by decide : 2 = (table 0x19#8).mode.operandBytes)⟩
theorem oraAbsX (op16 : Addr) : Statement (.oraAbsX op16) := 
  ⟨[loByte op16, hiByte op16], rfl, (by decide : 2 = (table 0x1D#8).mode.operandBytes)⟩
theorem eorIndX (op8 : Byte) : Statement (.eorIndX op8) := 
  ⟨[op8], rfl, (by decide : 1 = (table 0x41#8).mode.operandBytes)⟩
theorem eorZp (op8 : Byte) : Statement (.eorZp op8) := 
  ⟨[op8], rfl, (by decide : 1 = (table 0x45#8).mode.operandBytes)⟩
theorem eorImm (op8 : Byte) : Statement (.eorImm op8) := 
  ⟨[op8], rfl, (by decide : 1 = (table 0x49#8).mode.operandBytes)⟩
theorem eorAbs (op16 : Addr) : Statement (.eorAbs op16) := 
  ⟨[loByte op16, hiByte op16], rfl, (by decide : 2 = (table 0x4D#8).mode.operandBytes)⟩
theorem eorIndY (op8 : Byte) : Statement (.eorIndY op8) := 
  ⟨[op8], rfl, (by decide : 1 = (table 0x51#8).mode.operandBytes)⟩
theorem eorZpX (op8 : Byte) : Statement (.eorZpX op8) := 
  ⟨[op8], rfl, (by decide : 1 = (table 0x55#8).mode.operandBytes)⟩
theorem eorAbsY (op16 : Addr) : Statement (.eorAbsY op16) := 
  ⟨[loByte op16, hiByte op16], rfl, (by decide : 2 = (table 0x59#8).mode.operandBytes)⟩
theorem eorAbsX (op16 : Addr) : Statement (.eorAbsX op16) := 
  ⟨[loByte op16, hiByte op16], rfl, (by decide : 2 = (table 0x5D#8).mode.operandBytes)⟩
theorem bitZp (op8 : Byte) : Statement (.bitZp op8) := 
  ⟨[op8], rfl, (by decide : 1 = (table 0x24#8).mode.operandBytes)⟩
theorem bitAbs (op16 : Addr) : Statement (.bitAbs op16) := 
  ⟨[loByte op16, hiByte op16], rfl, (by decide : 2 = (table 0x2C#8).mode.operandBytes)⟩
theorem aslZp (op8 : Byte) : Statement (.aslZp op8) := 
  ⟨[op8], rfl, (by decide : 1 = (table 0x06#8).mode.operandBytes)⟩
theorem aslAcc : Statement (.aslAcc) := 
  ⟨[], rfl, (by decide : 0 = (table 0x0A#8).mode.operandBytes)⟩
theorem aslAbs (op16 : Addr) : Statement (.aslAbs op16) := 
  ⟨[loByte op16, hiByte op16], rfl, (by decide : 2 = (table 0x0E#8).mode.operandBytes)⟩
theorem aslZpX (op8 : Byte) : Statement (.aslZpX op8) := 
  ⟨[op8], rfl, (by decide : 1 = (table 0x16#8).mode.operandBytes)⟩
theorem aslAbsX (op16 : Addr) : Statement (.aslAbsX op16) := 
  ⟨[loByte op16, hiByte op16], rfl, (by decide : 2 = (table 0x1E#8).mode.operandBytes)⟩
theorem lsrZp (op8 : Byte) : Statement (.lsrZp op8) := 
  ⟨[op8], rfl, (by decide : 1 = (table 0x46#8).mode.operandBytes)⟩
theorem lsrAcc : Statement (.lsrAcc) := 
  ⟨[], rfl, (by decide : 0 = (table 0x4A#8).mode.operandBytes)⟩
theorem lsrAbs (op16 : Addr) : Statement (.lsrAbs op16) := 
  ⟨[loByte op16, hiByte op16], rfl, (by decide : 2 = (table 0x4E#8).mode.operandBytes)⟩
theorem lsrZpX (op8 : Byte) : Statement (.lsrZpX op8) := 
  ⟨[op8], rfl, (by decide : 1 = (table 0x56#8).mode.operandBytes)⟩
theorem lsrAbsX (op16 : Addr) : Statement (.lsrAbsX op16) := 
  ⟨[loByte op16, hiByte op16], rfl, (by decide : 2 = (table 0x5E#8).mode.operandBytes)⟩
theorem rolZp (op8 : Byte) : Statement (.rolZp op8) := 
  ⟨[op8], rfl, (by decide : 1 = (table 0x26#8).mode.operandBytes)⟩
theorem rolAcc : Statement (.rolAcc) := 
  ⟨[], rfl, (by decide : 0 = (table 0x2A#8).mode.operandBytes)⟩
theorem rolAbs (op16 : Addr) : Statement (.rolAbs op16) := 
  ⟨[loByte op16, hiByte op16], rfl, (by decide : 2 = (table 0x2E#8).mode.operandBytes)⟩
theorem rolZpX (op8 : Byte) : Statement (.rolZpX op8) := 
  ⟨[op8], rfl, (by decide : 1 = (table 0x36#8).mode.operandBytes)⟩
theorem rolAbsX (op16 : Addr) : Statement (.rolAbsX op16) := 
  ⟨[loByte op16, hiByte op16], rfl, (by decide : 2 = (table 0x3E#8).mode.operandBytes)⟩
theorem rorZp (op8 : Byte) : Statement (.rorZp op8) := 
  ⟨[op8], rfl, (by decide : 1 = (table 0x66#8).mode.operandBytes)⟩
theorem rorAcc : Statement (.rorAcc) := 
  ⟨[], rfl, (by decide : 0 = (table 0x6A#8).mode.operandBytes)⟩
theorem rorAbs (op16 : Addr) : Statement (.rorAbs op16) := 
  ⟨[loByte op16, hiByte op16], rfl, (by decide : 2 = (table 0x6E#8).mode.operandBytes)⟩
theorem rorZpX (op8 : Byte) : Statement (.rorZpX op8) := 
  ⟨[op8], rfl, (by decide : 1 = (table 0x76#8).mode.operandBytes)⟩
theorem rorAbsX (op16 : Addr) : Statement (.rorAbsX op16) := 
  ⟨[loByte op16, hiByte op16], rfl, (by decide : 2 = (table 0x7E#8).mode.operandBytes)⟩
theorem bpl (op8 : Byte) : Statement (.bpl op8) := 
  ⟨[op8], rfl, (by decide : 1 = (table 0x10#8).mode.operandBytes)⟩
theorem bmi (op8 : Byte) : Statement (.bmi op8) := 
  ⟨[op8], rfl, (by decide : 1 = (table 0x30#8).mode.operandBytes)⟩
theorem bvc (op8 : Byte) : Statement (.bvc op8) := 
  ⟨[op8], rfl, (by decide : 1 = (table 0x50#8).mode.operandBytes)⟩
theorem bvs (op8 : Byte) : Statement (.bvs op8) := 
  ⟨[op8], rfl, (by decide : 1 = (table 0x70#8).mode.operandBytes)⟩
theorem bcc (op8 : Byte) : Statement (.bcc op8) := 
  ⟨[op8], rfl, (by decide : 1 = (table 0x90#8).mode.operandBytes)⟩
theorem bcs (op8 : Byte) : Statement (.bcs op8) := 
  ⟨[op8], rfl, (by decide : 1 = (table 0xB0#8).mode.operandBytes)⟩
theorem bne (op8 : Byte) : Statement (.bne op8) := 
  ⟨[op8], rfl, (by decide : 1 = (table 0xD0#8).mode.operandBytes)⟩
theorem beq (op8 : Byte) : Statement (.beq op8) := 
  ⟨[op8], rfl, (by decide : 1 = (table 0xF0#8).mode.operandBytes)⟩
theorem jmpAbs (op16 : Addr) : Statement (.jmpAbs op16) := 
  ⟨[loByte op16, hiByte op16], rfl, (by decide : 2 = (table 0x4C#8).mode.operandBytes)⟩
theorem jmpInd (op16 : Addr) : Statement (.jmpInd op16) := 
  ⟨[loByte op16, hiByte op16], rfl, (by decide : 2 = (table 0x6C#8).mode.operandBytes)⟩
theorem jsr (op16 : Addr) : Statement (.jsr op16) := 
  ⟨[loByte op16, hiByte op16], rfl, (by decide : 2 = (table 0x20#8).mode.operandBytes)⟩
theorem rts : Statement (.rts) := 
  ⟨[], rfl, (by decide : 0 = (table 0x60#8).mode.operandBytes)⟩
theorem brk : Statement (.brk) := 
  ⟨[], rfl, (by decide : 0 = (table 0x00#8).mode.operandBytes)⟩
theorem rti : Statement (.rti) := 
  ⟨[], rfl, (by decide : 0 = (table 0x40#8).mode.operandBytes)⟩
theorem pha : Statement (.pha) := 
  ⟨[], rfl, (by decide : 0 = (table 0x48#8).mode.operandBytes)⟩
theorem php : Statement (.php) := 
  ⟨[], rfl, (by decide : 0 = (table 0x08#8).mode.operandBytes)⟩
theorem pla : Statement (.pla) := 
  ⟨[], rfl, (by decide : 0 = (table 0x68#8).mode.operandBytes)⟩
theorem plp : Statement (.plp) := 
  ⟨[], rfl, (by decide : 0 = (table 0x28#8).mode.operandBytes)⟩
theorem clc : Statement (.clc) := 
  ⟨[], rfl, (by decide : 0 = (table 0x18#8).mode.operandBytes)⟩
theorem cld : Statement (.cld) := 
  ⟨[], rfl, (by decide : 0 = (table 0xD8#8).mode.operandBytes)⟩
theorem cli : Statement (.cli) := 
  ⟨[], rfl, (by decide : 0 = (table 0x58#8).mode.operandBytes)⟩
theorem clv : Statement (.clv) := 
  ⟨[], rfl, (by decide : 0 = (table 0xB8#8).mode.operandBytes)⟩
theorem sec : Statement (.sec) := 
  ⟨[], rfl, (by decide : 0 = (table 0x38#8).mode.operandBytes)⟩
theorem sed : Statement (.sed) := 
  ⟨[], rfl, (by decide : 0 = (table 0xF8#8).mode.operandBytes)⟩
theorem sei : Statement (.sei) := 
  ⟨[], rfl, (by decide : 0 = (table 0x78#8).mode.operandBytes)⟩
theorem nop : Statement (.nop) := 
  ⟨[], rfl, (by decide : 0 = (table 0xEA#8).mode.operandBytes)⟩
theorem nop03 (op8 : Byte) : Statement (.nop03 op8) := 
  ⟨[op8], rfl, (by decide : 1 = (table 0x03#8).mode.operandBytes)⟩
theorem nop04 (op8 : Byte) : Statement (.nop04 op8) := 
  ⟨[op8], rfl, (by decide : 1 = (table 0x04#8).mode.operandBytes)⟩
theorem nop07 (op8 : Byte) : Statement (.nop07 op8) := 
  ⟨[op8], rfl, (by decide : 1 = (table 0x07#8).mode.operandBytes)⟩
theorem nop0B (op8 : Byte) : Statement (.nop0B op8) := 
  ⟨[op8], rfl, (by decide : 1 = (table 0x0B#8).mode.operandBytes)⟩
theorem nop0C (op16 : Addr) : Statement (.nop0C op16) := 
  ⟨[loByte op16, hiByte op16], rfl, (by decide : 2 = (table 0x0C#8).mode.operandBytes)⟩
theorem nop0F (op16 : Addr) : Statement (.nop0F op16) := 
  ⟨[loByte op16, hiByte op16], rfl, (by decide : 2 = (table 0x0F#8).mode.operandBytes)⟩
theorem nop13 (op8 : Byte) : Statement (.nop13 op8) := 
  ⟨[op8], rfl, (by decide : 1 = (table 0x13#8).mode.operandBytes)⟩
theorem nop14 (op8 : Byte) : Statement (.nop14 op8) := 
  ⟨[op8], rfl, (by decide : 1 = (table 0x14#8).mode.operandBytes)⟩
theorem nop17 (op8 : Byte) : Statement (.nop17 op8) := 
  ⟨[op8], rfl, (by decide : 1 = (table 0x17#8).mode.operandBytes)⟩
theorem nop1A : Statement (.nop1A) := 
  ⟨[], rfl, (by decide : 0 = (table 0x1A#8).mode.operandBytes)⟩
theorem nop1B (op16 : Addr) : Statement (.nop1B op16) := 
  ⟨[loByte op16, hiByte op16], rfl, (by decide : 2 = (table 0x1B#8).mode.operandBytes)⟩
theorem nop1C (op16 : Addr) : Statement (.nop1C op16) := 
  ⟨[loByte op16, hiByte op16], rfl, (by decide : 2 = (table 0x1C#8).mode.operandBytes)⟩
theorem nop1F (op16 : Addr) : Statement (.nop1F op16) := 
  ⟨[loByte op16, hiByte op16], rfl, (by decide : 2 = (table 0x1F#8).mode.operandBytes)⟩
theorem nop23 (op8 : Byte) : Statement (.nop23 op8) := 
  ⟨[op8], rfl, (by decide : 1 = (table 0x23#8).mode.operandBytes)⟩
theorem nop27 (op8 : Byte) : Statement (.nop27 op8) := 
  ⟨[op8], rfl, (by decide : 1 = (table 0x27#8).mode.operandBytes)⟩
theorem nop2B (op8 : Byte) : Statement (.nop2B op8) := 
  ⟨[op8], rfl, (by decide : 1 = (table 0x2B#8).mode.operandBytes)⟩
theorem nop2F (op16 : Addr) : Statement (.nop2F op16) := 
  ⟨[loByte op16, hiByte op16], rfl, (by decide : 2 = (table 0x2F#8).mode.operandBytes)⟩
theorem nop33 (op8 : Byte) : Statement (.nop33 op8) := 
  ⟨[op8], rfl, (by decide : 1 = (table 0x33#8).mode.operandBytes)⟩
theorem nop34 (op8 : Byte) : Statement (.nop34 op8) := 
  ⟨[op8], rfl, (by decide : 1 = (table 0x34#8).mode.operandBytes)⟩
theorem nop37 (op8 : Byte) : Statement (.nop37 op8) := 
  ⟨[op8], rfl, (by decide : 1 = (table 0x37#8).mode.operandBytes)⟩
theorem nop3A : Statement (.nop3A) := 
  ⟨[], rfl, (by decide : 0 = (table 0x3A#8).mode.operandBytes)⟩
theorem nop3B (op16 : Addr) : Statement (.nop3B op16) := 
  ⟨[loByte op16, hiByte op16], rfl, (by decide : 2 = (table 0x3B#8).mode.operandBytes)⟩
theorem nop3C (op16 : Addr) : Statement (.nop3C op16) := 
  ⟨[loByte op16, hiByte op16], rfl, (by decide : 2 = (table 0x3C#8).mode.operandBytes)⟩
theorem nop3F (op16 : Addr) : Statement (.nop3F op16) := 
  ⟨[loByte op16, hiByte op16], rfl, (by decide : 2 = (table 0x3F#8).mode.operandBytes)⟩
theorem nop43 (op8 : Byte) : Statement (.nop43 op8) := 
  ⟨[op8], rfl, (by decide : 1 = (table 0x43#8).mode.operandBytes)⟩
theorem nop44 (op8 : Byte) : Statement (.nop44 op8) := 
  ⟨[op8], rfl, (by decide : 1 = (table 0x44#8).mode.operandBytes)⟩
theorem nop47 (op8 : Byte) : Statement (.nop47 op8) := 
  ⟨[op8], rfl, (by decide : 1 = (table 0x47#8).mode.operandBytes)⟩
theorem nop4B (op8 : Byte) : Statement (.nop4B op8) := 
  ⟨[op8], rfl, (by decide : 1 = (table 0x4B#8).mode.operandBytes)⟩
theorem nop4F (op16 : Addr) : Statement (.nop4F op16) := 
  ⟨[loByte op16, hiByte op16], rfl, (by decide : 2 = (table 0x4F#8).mode.operandBytes)⟩
theorem nop53 (op8 : Byte) : Statement (.nop53 op8) := 
  ⟨[op8], rfl, (by decide : 1 = (table 0x53#8).mode.operandBytes)⟩
theorem nop54 (op8 : Byte) : Statement (.nop54 op8) := 
  ⟨[op8], rfl, (by decide : 1 = (table 0x54#8).mode.operandBytes)⟩
theorem nop57 (op8 : Byte) : Statement (.nop57 op8) := 
  ⟨[op8], rfl, (by decide : 1 = (table 0x57#8).mode.operandBytes)⟩
theorem nop5A : Statement (.nop5A) := 
  ⟨[], rfl, (by decide : 0 = (table 0x5A#8).mode.operandBytes)⟩
theorem nop5B (op16 : Addr) : Statement (.nop5B op16) := 
  ⟨[loByte op16, hiByte op16], rfl, (by decide : 2 = (table 0x5B#8).mode.operandBytes)⟩
theorem nop5C (op16 : Addr) : Statement (.nop5C op16) := 
  ⟨[loByte op16, hiByte op16], rfl, (by decide : 2 = (table 0x5C#8).mode.operandBytes)⟩
theorem nop5F (op16 : Addr) : Statement (.nop5F op16) := 
  ⟨[loByte op16, hiByte op16], rfl, (by decide : 2 = (table 0x5F#8).mode.operandBytes)⟩
theorem nop63 (op8 : Byte) : Statement (.nop63 op8) := 
  ⟨[op8], rfl, (by decide : 1 = (table 0x63#8).mode.operandBytes)⟩
theorem nop64 (op8 : Byte) : Statement (.nop64 op8) := 
  ⟨[op8], rfl, (by decide : 1 = (table 0x64#8).mode.operandBytes)⟩
theorem nop67 (op8 : Byte) : Statement (.nop67 op8) := 
  ⟨[op8], rfl, (by decide : 1 = (table 0x67#8).mode.operandBytes)⟩
theorem nop6B (op8 : Byte) : Statement (.nop6B op8) := 
  ⟨[op8], rfl, (by decide : 1 = (table 0x6B#8).mode.operandBytes)⟩
theorem nop6F (op16 : Addr) : Statement (.nop6F op16) := 
  ⟨[loByte op16, hiByte op16], rfl, (by decide : 2 = (table 0x6F#8).mode.operandBytes)⟩
theorem nop73 (op8 : Byte) : Statement (.nop73 op8) := 
  ⟨[op8], rfl, (by decide : 1 = (table 0x73#8).mode.operandBytes)⟩
theorem nop74 (op8 : Byte) : Statement (.nop74 op8) := 
  ⟨[op8], rfl, (by decide : 1 = (table 0x74#8).mode.operandBytes)⟩
theorem nop77 (op8 : Byte) : Statement (.nop77 op8) := 
  ⟨[op8], rfl, (by decide : 1 = (table 0x77#8).mode.operandBytes)⟩
theorem nop7A : Statement (.nop7A) := 
  ⟨[], rfl, (by decide : 0 = (table 0x7A#8).mode.operandBytes)⟩
theorem nop7B (op16 : Addr) : Statement (.nop7B op16) := 
  ⟨[loByte op16, hiByte op16], rfl, (by decide : 2 = (table 0x7B#8).mode.operandBytes)⟩
theorem nop7C (op16 : Addr) : Statement (.nop7C op16) := 
  ⟨[loByte op16, hiByte op16], rfl, (by decide : 2 = (table 0x7C#8).mode.operandBytes)⟩
theorem nop7F (op16 : Addr) : Statement (.nop7F op16) := 
  ⟨[loByte op16, hiByte op16], rfl, (by decide : 2 = (table 0x7F#8).mode.operandBytes)⟩
theorem nop80 (op8 : Byte) : Statement (.nop80 op8) := 
  ⟨[op8], rfl, (by decide : 1 = (table 0x80#8).mode.operandBytes)⟩
theorem nop82 (op8 : Byte) : Statement (.nop82 op8) := 
  ⟨[op8], rfl, (by decide : 1 = (table 0x82#8).mode.operandBytes)⟩
theorem nop83 (op8 : Byte) : Statement (.nop83 op8) := 
  ⟨[op8], rfl, (by decide : 1 = (table 0x83#8).mode.operandBytes)⟩
theorem nop87 (op8 : Byte) : Statement (.nop87 op8) := 
  ⟨[op8], rfl, (by decide : 1 = (table 0x87#8).mode.operandBytes)⟩
theorem nop89 (op8 : Byte) : Statement (.nop89 op8) := 
  ⟨[op8], rfl, (by decide : 1 = (table 0x89#8).mode.operandBytes)⟩
theorem nop8B (op8 : Byte) : Statement (.nop8B op8) := 
  ⟨[op8], rfl, (by decide : 1 = (table 0x8B#8).mode.operandBytes)⟩
theorem nop8F (op16 : Addr) : Statement (.nop8F op16) := 
  ⟨[loByte op16, hiByte op16], rfl, (by decide : 2 = (table 0x8F#8).mode.operandBytes)⟩
theorem nop93 (op8 : Byte) : Statement (.nop93 op8) := 
  ⟨[op8], rfl, (by decide : 1 = (table 0x93#8).mode.operandBytes)⟩
theorem nop97 (op8 : Byte) : Statement (.nop97 op8) := 
  ⟨[op8], rfl, (by decide : 1 = (table 0x97#8).mode.operandBytes)⟩
theorem nop9B (op16 : Addr) : Statement (.nop9B op16) := 
  ⟨[loByte op16, hiByte op16], rfl, (by decide : 2 = (table 0x9B#8).mode.operandBytes)⟩
theorem nop9C (op16 : Addr) : Statement (.nop9C op16) := 
  ⟨[loByte op16, hiByte op16], rfl, (by decide : 2 = (table 0x9C#8).mode.operandBytes)⟩
theorem nop9E (op16 : Addr) : Statement (.nop9E op16) := 
  ⟨[loByte op16, hiByte op16], rfl, (by decide : 2 = (table 0x9E#8).mode.operandBytes)⟩
theorem nop9F (op16 : Addr) : Statement (.nop9F op16) := 
  ⟨[loByte op16, hiByte op16], rfl, (by decide : 2 = (table 0x9F#8).mode.operandBytes)⟩
theorem nopA3 (op8 : Byte) : Statement (.nopA3 op8) := 
  ⟨[op8], rfl, (by decide : 1 = (table 0xA3#8).mode.operandBytes)⟩
theorem nopA7 (op8 : Byte) : Statement (.nopA7 op8) := 
  ⟨[op8], rfl, (by decide : 1 = (table 0xA7#8).mode.operandBytes)⟩
theorem nopAB (op8 : Byte) : Statement (.nopAB op8) := 
  ⟨[op8], rfl, (by decide : 1 = (table 0xAB#8).mode.operandBytes)⟩
theorem nopAF (op16 : Addr) : Statement (.nopAF op16) := 
  ⟨[loByte op16, hiByte op16], rfl, (by decide : 2 = (table 0xAF#8).mode.operandBytes)⟩
theorem nopB3 (op8 : Byte) : Statement (.nopB3 op8) := 
  ⟨[op8], rfl, (by decide : 1 = (table 0xB3#8).mode.operandBytes)⟩
theorem nopB7 (op8 : Byte) : Statement (.nopB7 op8) := 
  ⟨[op8], rfl, (by decide : 1 = (table 0xB7#8).mode.operandBytes)⟩
theorem nopBB (op16 : Addr) : Statement (.nopBB op16) := 
  ⟨[loByte op16, hiByte op16], rfl, (by decide : 2 = (table 0xBB#8).mode.operandBytes)⟩
theorem nopBF (op16 : Addr) : Statement (.nopBF op16) := 
  ⟨[loByte op16, hiByte op16], rfl, (by decide : 2 = (table 0xBF#8).mode.operandBytes)⟩
theorem nopC2 (op8 : Byte) : Statement (.nopC2 op8) := 
  ⟨[op8], rfl, (by decide : 1 = (table 0xC2#8).mode.operandBytes)⟩
theorem nopC3 (op8 : Byte) : Statement (.nopC3 op8) := 
  ⟨[op8], rfl, (by decide : 1 = (table 0xC3#8).mode.operandBytes)⟩
theorem nopC7 (op8 : Byte) : Statement (.nopC7 op8) := 
  ⟨[op8], rfl, (by decide : 1 = (table 0xC7#8).mode.operandBytes)⟩
theorem nopCB (op8 : Byte) : Statement (.nopCB op8) := 
  ⟨[op8], rfl, (by decide : 1 = (table 0xCB#8).mode.operandBytes)⟩
theorem nopCF (op16 : Addr) : Statement (.nopCF op16) := 
  ⟨[loByte op16, hiByte op16], rfl, (by decide : 2 = (table 0xCF#8).mode.operandBytes)⟩
theorem nopD3 (op8 : Byte) : Statement (.nopD3 op8) := 
  ⟨[op8], rfl, (by decide : 1 = (table 0xD3#8).mode.operandBytes)⟩
theorem nopD4 (op8 : Byte) : Statement (.nopD4 op8) := 
  ⟨[op8], rfl, (by decide : 1 = (table 0xD4#8).mode.operandBytes)⟩
theorem nopD7 (op8 : Byte) : Statement (.nopD7 op8) := 
  ⟨[op8], rfl, (by decide : 1 = (table 0xD7#8).mode.operandBytes)⟩
theorem nopDA : Statement (.nopDA) := 
  ⟨[], rfl, (by decide : 0 = (table 0xDA#8).mode.operandBytes)⟩
theorem nopDB (op16 : Addr) : Statement (.nopDB op16) := 
  ⟨[loByte op16, hiByte op16], rfl, (by decide : 2 = (table 0xDB#8).mode.operandBytes)⟩
theorem nopDC (op16 : Addr) : Statement (.nopDC op16) := 
  ⟨[loByte op16, hiByte op16], rfl, (by decide : 2 = (table 0xDC#8).mode.operandBytes)⟩
theorem nopDF (op16 : Addr) : Statement (.nopDF op16) := 
  ⟨[loByte op16, hiByte op16], rfl, (by decide : 2 = (table 0xDF#8).mode.operandBytes)⟩
theorem nopE2 (op8 : Byte) : Statement (.nopE2 op8) := 
  ⟨[op8], rfl, (by decide : 1 = (table 0xE2#8).mode.operandBytes)⟩
theorem nopE3 (op8 : Byte) : Statement (.nopE3 op8) := 
  ⟨[op8], rfl, (by decide : 1 = (table 0xE3#8).mode.operandBytes)⟩
theorem nopE7 (op8 : Byte) : Statement (.nopE7 op8) := 
  ⟨[op8], rfl, (by decide : 1 = (table 0xE7#8).mode.operandBytes)⟩
theorem nopEB (op8 : Byte) : Statement (.nopEB op8) := 
  ⟨[op8], rfl, (by decide : 1 = (table 0xEB#8).mode.operandBytes)⟩
theorem nopEF (op16 : Addr) : Statement (.nopEF op16) := 
  ⟨[loByte op16, hiByte op16], rfl, (by decide : 2 = (table 0xEF#8).mode.operandBytes)⟩
theorem nopF3 (op8 : Byte) : Statement (.nopF3 op8) := 
  ⟨[op8], rfl, (by decide : 1 = (table 0xF3#8).mode.operandBytes)⟩
theorem nopF4 (op8 : Byte) : Statement (.nopF4 op8) := 
  ⟨[op8], rfl, (by decide : 1 = (table 0xF4#8).mode.operandBytes)⟩
theorem nopF7 (op8 : Byte) : Statement (.nopF7 op8) := 
  ⟨[op8], rfl, (by decide : 1 = (table 0xF7#8).mode.operandBytes)⟩
theorem nopFA : Statement (.nopFA) := 
  ⟨[], rfl, (by decide : 0 = (table 0xFA#8).mode.operandBytes)⟩
theorem nopFB (op16 : Addr) : Statement (.nopFB op16) := 
  ⟨[loByte op16, hiByte op16], rfl, (by decide : 2 = (table 0xFB#8).mode.operandBytes)⟩
theorem nopFC (op16 : Addr) : Statement (.nopFC op16) := 
  ⟨[loByte op16, hiByte op16], rfl, (by decide : 2 = (table 0xFC#8).mode.operandBytes)⟩
theorem nopFF (op16 : Addr) : Statement (.nopFF op16) := 
  ⟨[loByte op16, hiByte op16], rfl, (by decide : 2 = (table 0xFF#8).mode.operandBytes)⟩
theorem kil02 : Statement (.kil02) := 
  ⟨[], rfl, (by decide : 0 = (table 0x02#8).mode.operandBytes)⟩
theorem kil12 : Statement (.kil12) := 
  ⟨[], rfl, (by decide : 0 = (table 0x12#8).mode.operandBytes)⟩
theorem kil22 : Statement (.kil22) := 
  ⟨[], rfl, (by decide : 0 = (table 0x22#8).mode.operandBytes)⟩
theorem kil32 : Statement (.kil32) := 
  ⟨[], rfl, (by decide : 0 = (table 0x32#8).mode.operandBytes)⟩
theorem kil42 : Statement (.kil42) := 
  ⟨[], rfl, (by decide : 0 = (table 0x42#8).mode.operandBytes)⟩
theorem kil52 : Statement (.kil52) := 
  ⟨[], rfl, (by decide : 0 = (table 0x52#8).mode.operandBytes)⟩
theorem kil62 : Statement (.kil62) := 
  ⟨[], rfl, (by decide : 0 = (table 0x62#8).mode.operandBytes)⟩
theorem kil72 : Statement (.kil72) := 
  ⟨[], rfl, (by decide : 0 = (table 0x72#8).mode.operandBytes)⟩
theorem kil92 : Statement (.kil92) := 
  ⟨[], rfl, (by decide : 0 = (table 0x92#8).mode.operandBytes)⟩
theorem kilB2 : Statement (.kilB2) := 
  ⟨[], rfl, (by decide : 0 = (table 0xB2#8).mode.operandBytes)⟩
theorem kilD2 : Statement (.kilD2) := 
  ⟨[], rfl, (by decide : 0 = (table 0xD2#8).mode.operandBytes)⟩
theorem kilF2 : Statement (.kilF2) := 
  ⟨[], rfl, (by decide : 0 = (table 0xF2#8).mode.operandBytes)⟩

end Sys2Proof.Laws.Encoded
end

