-- ==== Sys2Proof/Laws/Step.lean ====
section
/-! SUPPORT. What a boundary can do, once: the three requests, the fetch, the step, and a run of steps. -/

namespace Sys2Proof.Machine

variable (s : State)

/-- A request is taken "in the order RESET, NMI, IRQ" (60_exceptions.md R175), or there is none to take. -/
theorem State.takeRequest_cases :
    (s.resetReq = true ∧ s.takeRequest = some s.resetSequence) ∨
    (s.resetReq = false ∧ s.nmiPending = true ∧ s.takeRequest = some ((s.setNmiPending false).enterInterrupt 0xFFFA#16)) ∨
    (s.resetReq = false ∧ s.nmiPending = false ∧ s.irqLine = true ∧ s.flag .i = false ∧
      s.takeRequest = some (s.enterInterrupt 0xFFFE#16)) ∨
    (s.resetReq = false ∧ s.nmiPending = false ∧ (s.irqLine = false ∨ s.flag .i = true) ∧ s.takeRequest = none) := by
  cases h1 : s.resetReq <;> cases h2 : s.nmiPending <;> cases h3 : s.irqLine <;> cases h4 : s.flag .i <;>
    simp [State.takeRequest, h1, h2, h3, h4]

/-- What NMI and IRQ entry leave (60_exceptions.md R180, R183). -/
theorem State.enterInterrupt_eq {vector : Addr} (h : 0x4018 ≤ vector.toNat) (h' : vector.toNat < 0xFFFF) :
    s.enterInterrupt vector =
      ((((s.pushWord s.pc).push (withFlag s.p .b false)).setFlag .i true).setPc
        (wordOf (s.cart.read vector) (s.cart.read (vector + 1#16)))).addTicks 7 := by
  rw [State.enterInterrupt, State.enterVia_eq s _ _ h h']

/-- A fetch changes the picture generator at most. -/
theorem State.fetch_snd_eq : s.fetch.2 = s.setPpu s.fetch.2.ppu := by
  unfold State.fetch
  dsimp only
  split
  · exact s.afterRead_eq _
  · simp only [State.fetchOperand]
    split
    · exact s.afterRead_eq _
    · simp only [State.busRead_snd]; rw [State.afterRead_eq (s.afterRead _), State.afterRead_eq s]; rfl
  · dsimp only [State.busRead_snd]
    rw [State.readWord_snd_eq (s.afterRead _), State.afterRead_eq s]; rfl

@[simp] theorem State.fetch_fst_opcode : s.fetch.1.opcode = s.peek s.pc := by
  unfold State.fetch
  dsimp only
  split <;> simp

@[simp] theorem State.fetch_fst_entry : s.fetch.1.entry = table (s.peek s.pc) := by
  simp [Instr.entry]

theorem step_of_request {t : State} (h : s.takeRequest = some t) : step s = .next t := by
  simp only [step, h]

theorem step_of_no_request (h : s.takeRequest = none) : step s = exec s.fetch.1 s.fetch.2 := by
  simp only [step, h]

/-- A step is a request taken, or the instruction at PC run: it always answers a next state. -/
theorem step_cases :
    (∃ t, s.takeRequest = some t ∧ step s = .next t) ∨
    (s.takeRequest = none ∧ step s = .next (s.fetch.2.after s.fetch.1.entry s.fetch.1.operand)) := by
  cases h : s.takeRequest with
  | some t => exact .inl ⟨t, rfl, step_of_request s h⟩
  | none => exact .inr ⟨rfl, by rw [step_of_no_request s h, exec_eq_after]⟩

theorem run_zero : Sys2Proof.core.run 0 s = .next s := rfl

theorem run_succ {t : State} (n : Nat) (h : step s = .next t) : Sys2Proof.core.run (n + 1) s = Sys2Proof.core.run n t := by
  have h' : Sys2Proof.core.step s = .next t := h
  simp only [Host.Core.run, h']

end Sys2Proof.Machine
end

