-- ==== Sys2Proof/Tests/Slice0.lean ====
section
/-! SUPPORT. The model's own tests. Expected results are the worked vectors of 95_test_vectors.md (V<n>, I<n>, S<n>) and the
encodings of 30_encoding.md; one step each. At the end, for every statement with hypotheses, states that meet them. -/

namespace Sys2Proof.Tests

open Sys2Proof Sys2Proof.Machine

/-! ### Well-formedness: an ill-formed term for each check -/

/-- No opcode. -/
theorem test_no_opcode_is_refused : hasOpcode [] = false ∧ codeWellFormed [] = false ∧ decode [] = .rejected .noBytes := by decide

/-- An operand byte missing. -/
theorem test_missing_operand_is_refused :
    hasOperands [0xA9] = false ∧ codeWellFormed [0xA9] = false ∧ decode [0xA9] = .rejected (.truncated 0xA9) ∧
    codeWellFormed [0xAD, 0x00] = false ∧ decode [0xAD, 0x00] = .rejected (.truncated 0xAD) := by decide

/-- A byte too many: BRK is one byte long (R72), LDA # two. -/
theorem test_surplus_byte_is_refused :
    hasOperands [0x00, 0x00] = false ∧ codeWellFormed [0x00, 0x00] = false ∧ codeWellFormed [0xA9, 0x00, 0x00] = false := by decide

theorem test_whole_instructions_are_accepted :
    codeWellFormed [0x00] = true ∧ codeWellFormed [0xA9, 0x00] = true ∧ codeWellFormed [0x20, 0x00, 0x90] = true ∧
    (Instr.jsr 0x9000).wellFormed = true := by decide

/-! ### Decoding: a word for every constructor, row by row of the opcode map of 30_encoding.md R77, operand bytes $5A or $34 $12 -/

/-- Every listed word decodes to its instruction, and the instruction encodes to the word. -/
def decodesAs (l : List (List Byte × Instr)) : Bool := l.all fun r => decode r.1 == .ok r.2 [] && encode r.2 == r.1

theorem test_decode_row_0x : decodesAs [
    ([0x00], .brk), ([0x01, 0x5A], .oraIndX 0x5A), ([0x02], .kil02), ([0x03, 0x5A], .nop03 0x5A),
    ([0x04, 0x5A], .nop04 0x5A), ([0x05, 0x5A], .oraZp 0x5A), ([0x06, 0x5A], .aslZp 0x5A), ([0x07, 0x5A], .nop07 0x5A),
    ([0x08], .php), ([0x09, 0x5A], .oraImm 0x5A), ([0x0A], .aslAcc), ([0x0B, 0x5A], .nop0B 0x5A),
    ([0x0C, 0x34, 0x12], .nop0C 0x1234), ([0x0D, 0x34, 0x12], .oraAbs 0x1234), ([0x0E, 0x34, 0x12], .aslAbs 0x1234), ([0x0F, 0x34, 0x12], .nop0F 0x1234)] = true := by decide +kernel

theorem test_decode_row_1x : decodesAs [
    ([0x10, 0x5A], .bpl 0x5A), ([0x11, 0x5A], .oraIndY 0x5A), ([0x12], .kil12), ([0x13, 0x5A], .nop13 0x5A),
    ([0x14, 0x5A], .nop14 0x5A), ([0x15, 0x5A], .oraZpX 0x5A), ([0x16, 0x5A], .aslZpX 0x5A), ([0x17, 0x5A], .nop17 0x5A),
    ([0x18], .clc), ([0x19, 0x34, 0x12], .oraAbsY 0x1234), ([0x1A], .nop1A), ([0x1B, 0x34, 0x12], .nop1B 0x1234),
    ([0x1C, 0x34, 0x12], .nop1C 0x1234), ([0x1D, 0x34, 0x12], .oraAbsX 0x1234), ([0x1E, 0x34, 0x12], .aslAbsX 0x1234), ([0x1F, 0x34, 0x12], .nop1F 0x1234)] = true := by decide +kernel

theorem test_decode_row_2x : decodesAs [
    ([0x20, 0x34, 0x12], .jsr 0x1234), ([0x21, 0x5A], .andIndX 0x5A), ([0x22], .kil22), ([0x23, 0x5A], .nop23 0x5A),
    ([0x24, 0x5A], .bitZp 0x5A), ([0x25, 0x5A], .andZp 0x5A), ([0x26, 0x5A], .rolZp 0x5A), ([0x27, 0x5A], .nop27 0x5A),
    ([0x28], .plp), ([0x29, 0x5A], .andImm 0x5A), ([0x2A], .rolAcc), ([0x2B, 0x5A], .nop2B 0x5A),
    ([0x2C, 0x34, 0x12], .bitAbs 0x1234), ([0x2D, 0x34, 0x12], .andAbs 0x1234), ([0x2E, 0x34, 0x12], .rolAbs 0x1234), ([0x2F, 0x34, 0x12], .nop2F 0x1234)] = true := by decide +kernel

theorem test_decode_row_3x : decodesAs [
    ([0x30, 0x5A], .bmi 0x5A), ([0x31, 0x5A], .andIndY 0x5A), ([0x32], .kil32), ([0x33, 0x5A], .nop33 0x5A),
    ([0x34, 0x5A], .nop34 0x5A), ([0x35, 0x5A], .andZpX 0x5A), ([0x36, 0x5A], .rolZpX 0x5A), ([0x37, 0x5A], .nop37 0x5A),
    ([0x38], .sec), ([0x39, 0x34, 0x12], .andAbsY 0x1234), ([0x3A], .nop3A), ([0x3B, 0x34, 0x12], .nop3B 0x1234),
    ([0x3C, 0x34, 0x12], .nop3C 0x1234), ([0x3D, 0x34, 0x12], .andAbsX 0x1234), ([0x3E, 0x34, 0x12], .rolAbsX 0x1234), ([0x3F, 0x34, 0x12], .nop3F 0x1234)] = true := by decide +kernel

theorem test_decode_row_4x : decodesAs [
    ([0x40], .rti), ([0x41, 0x5A], .eorIndX 0x5A), ([0x42], .kil42), ([0x43, 0x5A], .nop43 0x5A),
    ([0x44, 0x5A], .nop44 0x5A), ([0x45, 0x5A], .eorZp 0x5A), ([0x46, 0x5A], .lsrZp 0x5A), ([0x47, 0x5A], .nop47 0x5A),
    ([0x48], .pha), ([0x49, 0x5A], .eorImm 0x5A), ([0x4A], .lsrAcc), ([0x4B, 0x5A], .nop4B 0x5A),
    ([0x4C, 0x34, 0x12], .jmpAbs 0x1234), ([0x4D, 0x34, 0x12], .eorAbs 0x1234), ([0x4E, 0x34, 0x12], .lsrAbs 0x1234), ([0x4F, 0x34, 0x12], .nop4F 0x1234)] = true := by decide +kernel

theorem test_decode_row_5x : decodesAs [
    ([0x50, 0x5A], .bvc 0x5A), ([0x51, 0x5A], .eorIndY 0x5A), ([0x52], .kil52), ([0x53, 0x5A], .nop53 0x5A),
    ([0x54, 0x5A], .nop54 0x5A), ([0x55, 0x5A], .eorZpX 0x5A), ([0x56, 0x5A], .lsrZpX 0x5A), ([0x57, 0x5A], .nop57 0x5A),
    ([0x58], .cli), ([0x59, 0x34, 0x12], .eorAbsY 0x1234), ([0x5A], .nop5A), ([0x5B, 0x34, 0x12], .nop5B 0x1234),
    ([0x5C, 0x34, 0x12], .nop5C 0x1234), ([0x5D, 0x34, 0x12], .eorAbsX 0x1234), ([0x5E, 0x34, 0x12], .lsrAbsX 0x1234), ([0x5F, 0x34, 0x12], .nop5F 0x1234)] = true := by decide +kernel

theorem test_decode_row_6x : decodesAs [
    ([0x60], .rts), ([0x61, 0x5A], .adcIndX 0x5A), ([0x62], .kil62), ([0x63, 0x5A], .nop63 0x5A),
    ([0x64, 0x5A], .nop64 0x5A), ([0x65, 0x5A], .adcZp 0x5A), ([0x66, 0x5A], .rorZp 0x5A), ([0x67, 0x5A], .nop67 0x5A),
    ([0x68], .pla), ([0x69, 0x5A], .adcImm 0x5A), ([0x6A], .rorAcc), ([0x6B, 0x5A], .nop6B 0x5A),
    ([0x6C, 0x34, 0x12], .jmpInd 0x1234), ([0x6D, 0x34, 0x12], .adcAbs 0x1234), ([0x6E, 0x34, 0x12], .rorAbs 0x1234), ([0x6F, 0x34, 0x12], .nop6F 0x1234)] = true := by decide +kernel

theorem test_decode_row_7x : decodesAs [
    ([0x70, 0x5A], .bvs 0x5A), ([0x71, 0x5A], .adcIndY 0x5A), ([0x72], .kil72), ([0x73, 0x5A], .nop73 0x5A),
    ([0x74, 0x5A], .nop74 0x5A), ([0x75, 0x5A], .adcZpX 0x5A), ([0x76, 0x5A], .rorZpX 0x5A), ([0x77, 0x5A], .nop77 0x5A),
    ([0x78], .sei), ([0x79, 0x34, 0x12], .adcAbsY 0x1234), ([0x7A], .nop7A), ([0x7B, 0x34, 0x12], .nop7B 0x1234),
    ([0x7C, 0x34, 0x12], .nop7C 0x1234), ([0x7D, 0x34, 0x12], .adcAbsX 0x1234), ([0x7E, 0x34, 0x12], .rorAbsX 0x1234), ([0x7F, 0x34, 0x12], .nop7F 0x1234)] = true := by decide +kernel

theorem test_decode_row_8x : decodesAs [
    ([0x80, 0x5A], .nop80 0x5A), ([0x81, 0x5A], .staIndX 0x5A), ([0x82, 0x5A], .nop82 0x5A), ([0x83, 0x5A], .nop83 0x5A),
    ([0x84, 0x5A], .styZp 0x5A), ([0x85, 0x5A], .staZp 0x5A), ([0x86, 0x5A], .stxZp 0x5A), ([0x87, 0x5A], .nop87 0x5A),
    ([0x88], .dey), ([0x89, 0x5A], .nop89 0x5A), ([0x8A], .txa), ([0x8B, 0x5A], .nop8B 0x5A),
    ([0x8C, 0x34, 0x12], .styAbs 0x1234), ([0x8D, 0x34, 0x12], .staAbs 0x1234), ([0x8E, 0x34, 0x12], .stxAbs 0x1234), ([0x8F, 0x34, 0x12], .nop8F 0x1234)] = true := by decide +kernel

theorem test_decode_row_9x : decodesAs [
    ([0x90, 0x5A], .bcc 0x5A), ([0x91, 0x5A], .staIndY 0x5A), ([0x92], .kil92), ([0x93, 0x5A], .nop93 0x5A),
    ([0x94, 0x5A], .styZpX 0x5A), ([0x95, 0x5A], .staZpX 0x5A), ([0x96, 0x5A], .stxZpY 0x5A), ([0x97, 0x5A], .nop97 0x5A),
    ([0x98], .tya), ([0x99, 0x34, 0x12], .staAbsY 0x1234), ([0x9A], .txs), ([0x9B, 0x34, 0x12], .nop9B 0x1234),
    ([0x9C, 0x34, 0x12], .nop9C 0x1234), ([0x9D, 0x34, 0x12], .staAbsX 0x1234), ([0x9E, 0x34, 0x12], .nop9E 0x1234), ([0x9F, 0x34, 0x12], .nop9F 0x1234)] = true := by decide +kernel

theorem test_decode_row_Ax : decodesAs [
    ([0xA0, 0x5A], .ldyImm 0x5A), ([0xA1, 0x5A], .ldaIndX 0x5A), ([0xA2, 0x5A], .ldxImm 0x5A), ([0xA3, 0x5A], .nopA3 0x5A),
    ([0xA4, 0x5A], .ldyZp 0x5A), ([0xA5, 0x5A], .ldaZp 0x5A), ([0xA6, 0x5A], .ldxZp 0x5A), ([0xA7, 0x5A], .nopA7 0x5A),
    ([0xA8], .tay), ([0xA9, 0x5A], .ldaImm 0x5A), ([0xAA], .tax), ([0xAB, 0x5A], .nopAB 0x5A),
    ([0xAC, 0x34, 0x12], .ldyAbs 0x1234), ([0xAD, 0x34, 0x12], .ldaAbs 0x1234), ([0xAE, 0x34, 0x12], .ldxAbs 0x1234), ([0xAF, 0x34, 0x12], .nopAF 0x1234)] = true := by decide +kernel

theorem test_decode_row_Bx : decodesAs [
    ([0xB0, 0x5A], .bcs 0x5A), ([0xB1, 0x5A], .ldaIndY 0x5A), ([0xB2], .kilB2), ([0xB3, 0x5A], .nopB3 0x5A),
    ([0xB4, 0x5A], .ldyZpX 0x5A), ([0xB5, 0x5A], .ldaZpX 0x5A), ([0xB6, 0x5A], .ldxZpY 0x5A), ([0xB7, 0x5A], .nopB7 0x5A),
    ([0xB8], .clv), ([0xB9, 0x34, 0x12], .ldaAbsY 0x1234), ([0xBA], .tsx), ([0xBB, 0x34, 0x12], .nopBB 0x1234),
    ([0xBC, 0x34, 0x12], .ldyAbsX 0x1234), ([0xBD, 0x34, 0x12], .ldaAbsX 0x1234), ([0xBE, 0x34, 0x12], .ldxAbsY 0x1234), ([0xBF, 0x34, 0x12], .nopBF 0x1234)] = true := by decide +kernel

theorem test_decode_row_Cx : decodesAs [
    ([0xC0, 0x5A], .cpyImm 0x5A), ([0xC1, 0x5A], .cmpIndX 0x5A), ([0xC2, 0x5A], .nopC2 0x5A), ([0xC3, 0x5A], .nopC3 0x5A),
    ([0xC4, 0x5A], .cpyZp 0x5A), ([0xC5, 0x5A], .cmpZp 0x5A), ([0xC6, 0x5A], .decZp 0x5A), ([0xC7, 0x5A], .nopC7 0x5A),
    ([0xC8], .iny), ([0xC9, 0x5A], .cmpImm 0x5A), ([0xCA], .dex), ([0xCB, 0x5A], .nopCB 0x5A),
    ([0xCC, 0x34, 0x12], .cpyAbs 0x1234), ([0xCD, 0x34, 0x12], .cmpAbs 0x1234), ([0xCE, 0x34, 0x12], .decAbs 0x1234), ([0xCF, 0x34, 0x12], .nopCF 0x1234)] = true := by decide +kernel

theorem test_decode_row_Dx : decodesAs [
    ([0xD0, 0x5A], .bne 0x5A), ([0xD1, 0x5A], .cmpIndY 0x5A), ([0xD2], .kilD2), ([0xD3, 0x5A], .nopD3 0x5A),
    ([0xD4, 0x5A], .nopD4 0x5A), ([0xD5, 0x5A], .cmpZpX 0x5A), ([0xD6, 0x5A], .decZpX 0x5A), ([0xD7, 0x5A], .nopD7 0x5A),
    ([0xD8], .cld), ([0xD9, 0x34, 0x12], .cmpAbsY 0x1234), ([0xDA], .nopDA), ([0xDB, 0x34, 0x12], .nopDB 0x1234),
    ([0xDC, 0x34, 0x12], .nopDC 0x1234), ([0xDD, 0x34, 0x12], .cmpAbsX 0x1234), ([0xDE, 0x34, 0x12], .decAbsX 0x1234), ([0xDF, 0x34, 0x12], .nopDF 0x1234)] = true := by decide +kernel

theorem test_decode_row_Ex : decodesAs [
    ([0xE0, 0x5A], .cpxImm 0x5A), ([0xE1, 0x5A], .sbcIndX 0x5A), ([0xE2, 0x5A], .nopE2 0x5A), ([0xE3, 0x5A], .nopE3 0x5A),
    ([0xE4, 0x5A], .cpxZp 0x5A), ([0xE5, 0x5A], .sbcZp 0x5A), ([0xE6, 0x5A], .incZp 0x5A), ([0xE7, 0x5A], .nopE7 0x5A),
    ([0xE8], .inx), ([0xE9, 0x5A], .sbcImm 0x5A), ([0xEA], .nop), ([0xEB, 0x5A], .nopEB 0x5A),
    ([0xEC, 0x34, 0x12], .cpxAbs 0x1234), ([0xED, 0x34, 0x12], .sbcAbs 0x1234), ([0xEE, 0x34, 0x12], .incAbs 0x1234), ([0xEF, 0x34, 0x12], .nopEF 0x1234)] = true := by decide +kernel

theorem test_decode_row_Fx : decodesAs [
    ([0xF0, 0x5A], .beq 0x5A), ([0xF1, 0x5A], .sbcIndY 0x5A), ([0xF2], .kilF2), ([0xF3, 0x5A], .nopF3 0x5A),
    ([0xF4, 0x5A], .nopF4 0x5A), ([0xF5, 0x5A], .sbcZpX 0x5A), ([0xF6, 0x5A], .incZpX 0x5A), ([0xF7, 0x5A], .nopF7 0x5A),
    ([0xF8], .sed), ([0xF9, 0x34, 0x12], .sbcAbsY 0x1234), ([0xFA], .nopFA), ([0xFB, 0x34, 0x12], .nopFB 0x1234),
    ([0xFC, 0x34, 0x12], .nopFC 0x1234), ([0xFD, 0x34, 0x12], .sbcAbsX 0x1234), ([0xFE, 0x34, 0x12], .incAbsX 0x1234), ([0xFF, 0x34, 0x12], .nopFF 0x1234)] = true := by decide +kernel

/-- The host's numbering of bits: the first byte lowest (R71). A row may give an operand word no bits. -/
theorem test_table_words :
    decodeTableWord 8 0xEA = some .nop ∧ decodeTableWord 16 0x42A9 = some (.ldaImm 0x42) ∧
    decodeTableWord 24 0x90008D = some (.staAbs 0x9000) ∧ decodeTableWord 8 0x4C = some (.jmpAbs 0x0000) := by decide

/-! ### One step -/

/-- Bytes at addresses, in canonical form. -/
def cells (l : List (Nat × Byte)) : Memory := l.foldl (fun m c => Memory.write m c.1 c.2) []

/-- The baseline of 95_test_vectors.md with the fixture cartridge of 92_eei_decisions.md D29. -/
def cpu (pc : Addr) (rom : List (Nat × Byte)) : State := { State.reset with pc := pc, cart := .board (cells rom) [] }

/-- What a vector's result column lists. -/
structure Seen where
  a : Byte
  x : Byte
  y : Byte
  sp : Byte
  p : Byte
  pc : Addr
  tick : Nat
  bytes : List Byte
deriving DecidableEq, Repr

/-- A, X, Y, SP, P, PC, `tick` and the watched bytes after one boundary. -/
def shows (s : State) (watch : List Addr) : Option Seen :=
  match step s with
  | .next t => some ⟨t.a, t.x, t.y, t.sp, t.p, t.pc, t.tick, watch.map t.peek⟩
  | _ => none

/-- V2 (R96): ZP. -/
theorem test_V2_zp :
    shows { cpu 0x8000 [(0x8000, 0xA5), (0x8001, 0x10)] with ram := cells [(0x0010, 0x33)] } [] =
      some ⟨0x33, 0x00, 0x00, 0xFD, 0x34, 0x8002, 3, []⟩ := by decide +kernel

/-- V3 (R97): ZPX wraps in page 0 (source: zeroX($18), X=$F0 → $08). -/
theorem test_V3_zpx_wraps_in_page_0_source :
    shows { cpu 0x8000 [(0x8000, 0xB5), (0x8001, 0x18)] with x := 0xF0, ram := cells [(0x0008, 0x99)] } [] =
      some ⟨0x99, 0xF0, 0x00, 0xFD, 0xB4, 0x8002, 4, []⟩ := by decide +kernel

/-- V4 (R98): ZPY wraps in page 0. -/
theorem test_V4_zpy_wraps_in_page_0 :
    shows { cpu 0x8000 [(0x8000, 0xB6), (0x8001, 0xFF)] with y := 0x02, ram := cells [(0x0001, 0x44)] } [] =
      some ⟨0x00, 0x44, 0x02, 0xFD, 0x34, 0x8002, 4, []⟩ := by decide +kernel

/-- V5 (R99): ABS, RAM mirror $0800 → cell $000. -/
theorem test_V5_abs_ram_mirror_0800_cell_000 :
    shows { cpu 0x8000 [(0x8000, 0xAD), (0x8001, 0x00), (0x8002, 0x08)] with ram := cells [(0x0000, 0x5A)] } [] =
      some ⟨0x5A, 0x00, 0x00, 0xFD, 0x34, 0x8003, 4, []⟩ := by decide +kernel

/-- V6 (R100): ABSX, no page cross. -/
theorem test_V6_absx_no_page_cross :
    shows { cpu 0x8000 [(0x8000, 0xBD), (0x8001, 0x00), (0x8002, 0x02)] with x := 0xFF, ram := cells [(0x02FF, 0x01)] } [] =
      some ⟨0x01, 0xFF, 0x00, 0xFD, 0x34, 0x8003, 4, []⟩ := by decide +kernel

/-- V7 (R100): ABSX, page cross (+1 for LDA). -/
theorem test_V7_absx_page_cross_1_for_lda :
    shows { cpu 0x8000 [(0x8000, 0xBD), (0x8001, 0x01), (0x8002, 0x02)] with x := 0xFF, ram := cells [(0x0300, 0x02)] } [] =
      some ⟨0x02, 0xFF, 0x00, 0xFD, 0x34, 0x8003, 5, []⟩ := by decide +kernel

/-- V8 (R101): ABSY wraps at $FFFF to page 0 (cross). -/
theorem test_V8_absy_wraps_at_ffff_to_page_0_cross :
    shows { cpu 0x8000 [(0x8000, 0xB9), (0x8001, 0xFF), (0x8002, 0xFF)] with y := 0x02, ram := cells [(0x0001, 0x77)] } [] =
      some ⟨0x77, 0x00, 0x02, 0xFD, 0x34, 0x8003, 5, []⟩ := by decide +kernel

/-- V9 (R103): INDX: pointer at (op+X)&$FF. -/
theorem test_V9_indx :
    shows { cpu 0x8000 [(0x8000, 0xA1), (0x8001, 0x20)] with x := 0x04, ram := cells [(0x0024, 0x00), (0x0025, 0x03), (0x0300, 0xAB)] } [] =
      some ⟨0xAB, 0x04, 0x00, 0xFD, 0xB4, 0x8002, 6, []⟩ := by decide +kernel

/-- V10 (R103): INDX: pointer at $FF, ZP_PTR_WRAP=true (high byte from $0000). -/
theorem test_V10_indx :
    shows { cpu 0x8000 [(0x8000, 0xA1), (0x8001, 0xFE)] with x := 0x01, ram := cells [(0x00FF, 0x00), (0x0000, 0x04), (0x0400, 0xCD)] } [] =
      some ⟨0xCD, 0x01, 0x00, 0xFD, 0xB4, 0x8002, 6, []⟩ := by decide +kernel

/-- V12 (R104): INDY, page cross (+1 for LDA). -/
theorem test_V12_indy_page_cross_1_for_lda :
    shows { cpu 0x8000 [(0x8000, 0xB1), (0x8001, 0x40)] with y := 0x10, ram := cells [(0x0040, 0xF8), (0x0041, 0x03), (0x0408, 0x22)] } [] =
      some ⟨0x22, 0x00, 0x10, 0xFD, 0x34, 0x8002, 6, []⟩ := by decide +kernel

/-- V14 (R46): Read of the picture-generator window (test fixture returns 0). -/
theorem test_V14_read_of_the_picture_generator_window_test_fi :
    shows { cpu 0x8000 [(0x8000, 0xAD), (0x8001, 0x02), (0x8002, 0x20)] with a := 0x55, ppu := { log := [], answers := [0x00], draws := 0 } } [] =
      some ⟨0x00, 0x00, 0x00, 0xFD, 0x36, 0x8003, 4, []⟩ := by decide +kernel

/-- V17 (R87): Opcode fetch from a stub executes BRK ($00). -/
theorem test_V17_opcode_fetch_from_a_stub_executes_brk_00 :
    shows (cpu 0x4000 [(0xFFFE, 0x00), (0xFFFF, 0x90)]) [0x01FC, 0x01FB, 0x01FA] =
      some ⟨0x00, 0x00, 0x00, 0xFA, 0x34, 0x9000, 7, [0x40, 0x01, 0x34]⟩ := by decide +kernel

/-- V18 (R110): LDA #$00 (§8 scenario). -/
theorem test_V18_lda_00_8_scenario :
    shows (cpu 0x8000 [(0x8000, 0xA9), (0x8001, 0x00)]) [] =
      some ⟨0x00, 0x00, 0x00, 0xFD, 0x36, 0x8002, 2, []⟩ := by decide +kernel

/-- V19 (R110): LDA #$80. -/
theorem test_V19_lda_80 :
    shows (cpu 0x8000 [(0x8000, 0xA9), (0x8001, 0x80)]) [] =
      some ⟨0x80, 0x00, 0x00, 0xFD, 0xB4, 0x8002, 2, []⟩ := by decide +kernel

/-- V20 (R110): LDA abs,Y page cross (§8: 5 cycles). -/
theorem test_V20_lda_abs_y_page_cross_8 :
    shows { cpu 0x8000 [(0x8000, 0xB9), (0x8001, 0xF0), (0x8002, 0x02)] with y := 0x20 } [] =
      some ⟨0x00, 0x00, 0x20, 0xFD, 0x36, 0x8003, 5, []⟩ := by decide +kernel

/-- V22 (R111): LDX abs,Y page cross (+1). -/
theorem test_V22_ldx_abs_y_page_cross_1 :
    shows { cpu 0x8000 [(0x8000, 0xBE), (0x8001, 0xFF), (0x8002, 0x00)] with y := 0x01, ram := cells [(0x0100, 0x80)] } [] =
      some ⟨0x00, 0x80, 0x01, 0xFD, 0xB4, 0x8003, 5, []⟩ := by decide +kernel

/-- V23 (R111): LDX zp,Y. -/
theorem test_V23_ldx_zp_y :
    shows { cpu 0x8000 [(0x8000, 0xB6), (0x8001, 0x10)] with y := 0x05, ram := cells [(0x0015, 0x00)] } [] =
      some ⟨0x00, 0x00, 0x05, 0xFD, 0x36, 0x8002, 4, []⟩ := by decide +kernel

/-- V24 (R112): LDY abs,X page cross (+1). -/
theorem test_V24_ldy_abs_x_page_cross_1 :
    shows { cpu 0x8000 [(0x8000, 0xBC), (0x8001, 0x80), (0x8002, 0x00)] with x := 0x80, ram := cells [(0x0100, 0x01)] } [] =
      some ⟨0x00, 0x80, 0x01, 0xFD, 0x34, 0x8003, 5, []⟩ := by decide +kernel

/-- V25 (R113): STA abs,X page cross: no penalty (5). -/
theorem test_V25_sta_abs_x_page_cross :
    shows { cpu 0x8000 [(0x8000, 0x9D), (0x8001, 0xFF), (0x8002, 0x02)] with a := 0x42, x := 0x01 } [0x0300] =
      some ⟨0x42, 0x01, 0x00, 0xFD, 0x34, 0x8003, 5, [0x42]⟩ := by decide +kernel

/-- V26 (R113): STA (zp),Y: fixed 6. -/
theorem test_V26_sta_zp_y :
    shows { cpu 0x8000 [(0x8000, 0x91), (0x8001, 0x40)] with a := 0x42, y := 0x10, ram := cells [(0x0040, 0xF8), (0x0041, 0x03)] } [0x0408] =
      some ⟨0x42, 0x00, 0x10, 0xFD, 0x34, 0x8002, 6, [0x42]⟩ := by decide +kernel

/-- V28 (R114): STX zp,Y wraps. -/
theorem test_V28_stx_zp_y_wraps :
    shows { cpu 0x8000 [(0x8000, 0x96), (0x8001, 0xF0)] with x := 0x07, y := 0x20 } [0x0010] =
      some ⟨0x00, 0x07, 0x20, 0xFD, 0x34, 0x8002, 4, [0x07]⟩ := by decide +kernel

/-- V29 (R115): STY zp,X wraps. -/
theorem test_V29_sty_zp_x_wraps :
    shows { cpu 0x8000 [(0x8000, 0x94), (0x8001, 0xFF)] with x := 0x01, y := 0xFF } [0x0000] =
      some ⟨0x00, 0x01, 0xFF, 0xFD, 0x34, 0x8002, 4, [0xFF]⟩ := by decide +kernel

/-- V30 (R116): TAX sets N. -/
theorem test_V30_tax_sets_n :
    shows { cpu 0x8000 [(0x8000, 0xAA)] with a := 0x90 } [] =
      some ⟨0x90, 0x90, 0x00, 0xFD, 0xB4, 0x8001, 2, []⟩ := by decide +kernel

/-- V31 (R117): TAY sets Z. -/
theorem test_V31_tay_sets_z :
    shows { cpu 0x8000 [(0x8000, 0xA8)] with y := 0x33 } [] =
      some ⟨0x00, 0x00, 0x00, 0xFD, 0x36, 0x8001, 2, []⟩ := by decide +kernel

/-- V32 (R118): TXA. -/
theorem test_V32_txa :
    shows { cpu 0x8000 [(0x8000, 0x8A)] with x := 0x7F } [] =
      some ⟨0x7F, 0x7F, 0x00, 0xFD, 0x34, 0x8001, 2, []⟩ := by decide +kernel

/-- V33 (R119): TYA. -/
theorem test_V33_tya :
    shows { cpu 0x8000 [(0x8000, 0x98)] with y := 0x80 } [] =
      some ⟨0x80, 0x00, 0x80, 0xFD, 0xB4, 0x8001, 2, []⟩ := by decide +kernel

/-- V34 (R120): TSX after power-on SP. -/
theorem test_V34_tsx_after_power_on_sp :
    shows (cpu 0x8000 [(0x8000, 0xBA)]) [] = some ⟨0x00, 0xFD, 0x00, 0xFD, 0xB4, 0x8001, 2, []⟩ := by decide +kernel

/-- V35 (R121): TXS writes no flag. -/
theorem test_V35_txs_writes_no_flag :
    shows (cpu 0x8000 [(0x8000, 0x9A)]) [] = some ⟨0x00, 0x00, 0x00, 0x00, 0x34, 0x8001, 2, []⟩ := by decide +kernel

/-- V37 (R124): ADC (§8 table) A=$40 + $50, C=0. -/
theorem test_V37_adc_8_table_a_40_50_c_0 :
    shows { cpu 0x8000 [(0x8000, 0x69), (0x8001, 0x50)] with a := 0x40 } [] =
      some ⟨0x90, 0x00, 0x00, 0xFD, 0xF4, 0x8002, 2, []⟩ := by decide +kernel

/-- V41 (R124): ADC negative overflow: $80 + $80. -/
theorem test_V41_adc_negative_overflow :
    shows { cpu 0x8000 [(0x8000, 0x69), (0x8001, 0x80)] with a := 0x80 } [] =
      some ⟨0x00, 0x00, 0x00, 0xFD, 0x77, 0x8002, 2, []⟩ := by decide +kernel

/-- V45 (R125): SBC $00 - $01, C=1. -/
theorem test_V45_sbc_00_01_c_1 :
    shows { cpu 0x8000 [(0x8000, 0xE9), (0x8001, 0x01)] with p := 0x35 } [] =
      some ⟨0xFF, 0x00, 0x00, 0xFD, 0xB4, 0x8002, 2, []⟩ := by decide +kernel

/-- V46 (R125): SBC $80 - $01, C=1 (signed overflow). -/
theorem test_V46_sbc_80_01_c_1_signed_overflow :
    shows { cpu 0x8000 [(0x8000, 0xE9), (0x8001, 0x01)] with a := 0x80, p := 0x35 } [] =
      some ⟨0x7F, 0x00, 0x00, 0xFD, 0x75, 0x8002, 2, []⟩ := by decide +kernel

/-- V50 (R127): CMP (§8) A=$08, m=$10. -/
theorem test_V50_cmp_8_a_08_m_10 :
    shows { cpu 0x8000 [(0x8000, 0xC9), (0x8001, 0x10)] with a := 0x08 } [] =
      some ⟨0x08, 0x00, 0x00, 0xFD, 0xB4, 0x8002, 2, []⟩ := by decide +kernel

/-- V51 (R127): CMP N from the difference: A=$01, m=$FF. -/
theorem test_V51_cmp_n_from_the_difference :
    shows { cpu 0x8000 [(0x8000, 0xC9), (0x8001, 0xFF)] with a := 0x01 } [] =
      some ⟨0x01, 0x00, 0x00, 0xFD, 0x34, 0x8002, 2, []⟩ := by decide +kernel

/-- V52 (R128): CPX. -/
theorem test_V52_cpx :
    shows { cpu 0x8000 [(0x8000, 0xE0), (0x8001, 0x0A)] with x := 0x0A } [] =
      some ⟨0x00, 0x0A, 0x00, 0xFD, 0x37, 0x8002, 2, []⟩ := by decide +kernel

/-- V53 (R129): CPY. -/
theorem test_V53_cpy :
    shows (cpu 0x8000 [(0x8000, 0xC0), (0x8001, 0x01)]) [] =
      some ⟨0x00, 0x00, 0x00, 0xFD, 0xB4, 0x8002, 2, []⟩ := by decide +kernel

/-- V54 (R130): INC wraps $FF → $00 (§4.5). -/
theorem test_V54_inc_wraps_ff_00_4_5 :
    shows { cpu 0x8000 [(0x8000, 0xE6), (0x8001, 0x10)] with ram := cells [(0x0010, 0xFF)] } [0x0010] =
      some ⟨0x00, 0x00, 0x00, 0xFD, 0x36, 0x8002, 5, [0x00]⟩ := by decide +kernel

/-- V55 (R130): INC abs,X page cross: no penalty (7). -/
theorem test_V55_inc_abs_x_page_cross :
    shows { cpu 0x8000 [(0x8000, 0xFE), (0x8001, 0xFF), (0x8002, 0x02)] with x := 0x01, ram := cells [(0x0300, 0x7F)] } [0x0300] =
      some ⟨0x00, 0x01, 0x00, 0xFD, 0xB4, 0x8003, 7, [0x80]⟩ := by decide +kernel

/-- V56 (R131): DEC wraps $00 → $FF (§4.5). -/
theorem test_V56_dec_wraps_00_ff_4_5 :
    shows { cpu 0x8000 [(0x8000, 0xCE), (0x8001, 0x00), (0x8002, 0x02)] with ram := cells [(0x0200, 0x00)] } [0x0200] =
      some ⟨0x00, 0x00, 0x00, 0xFD, 0xB4, 0x8003, 6, [0xFF]⟩ := by decide +kernel

/-- V57 (R132): INX. -/
theorem test_V57_inx :
    shows { cpu 0x8000 [(0x8000, 0xE8)] with x := 0x7F } [] =
      some ⟨0x00, 0x80, 0x00, 0xFD, 0xB4, 0x8001, 2, []⟩ := by decide +kernel

/-- V58 (R133): INY wraps. -/
theorem test_V58_iny_wraps :
    shows { cpu 0x8000 [(0x8000, 0xC8)] with y := 0xFF } [] =
      some ⟨0x00, 0x00, 0x00, 0xFD, 0x36, 0x8001, 2, []⟩ := by decide +kernel

/-- V59 (R134): DEX. -/
theorem test_V59_dex :
    shows { cpu 0x8000 [(0x8000, 0xCA)] with x := 0x01 } [] =
      some ⟨0x00, 0x00, 0x00, 0xFD, 0x36, 0x8001, 2, []⟩ := by decide +kernel

/-- V60 (R135): DEY wraps. -/
theorem test_V60_dey_wraps :
    shows (cpu 0x8000 [(0x8000, 0x88)]) [] = some ⟨0x00, 0x00, 0xFF, 0xFD, 0xB4, 0x8001, 2, []⟩ := by decide +kernel

/-- V61 (R136): AND. -/
theorem test_V61_and :
    shows { cpu 0x8000 [(0x8000, 0x29), (0x8001, 0x3C)] with a := 0xF0 } [] =
      some ⟨0x30, 0x00, 0x00, 0xFD, 0x34, 0x8002, 2, []⟩ := by decide +kernel

/-- V62 (R136): AND to zero. -/
theorem test_V62_and_to_zero :
    shows { cpu 0x8000 [(0x8000, 0x29), (0x8001, 0x0F)] with a := 0xF0 } [] =
      some ⟨0x00, 0x00, 0x00, 0xFD, 0x36, 0x8002, 2, []⟩ := by decide +kernel

/-- V63 (R137): ORA. -/
theorem test_V63_ora :
    shows { cpu 0x8000 [(0x8000, 0x09), (0x8001, 0x80)] with a := 0x01 } [] =
      some ⟨0x81, 0x00, 0x00, 0xFD, 0xB4, 0x8002, 2, []⟩ := by decide +kernel

/-- V64 (R138): EOR. -/
theorem test_V64_eor :
    shows { cpu 0x8000 [(0x8000, 0x49), (0x8001, 0x0F)] with a := 0xFF } [] =
      some ⟨0xF0, 0x00, 0x00, 0xFD, 0xB4, 0x8002, 2, []⟩ := by decide +kernel

/-- V65 (R138): EOR self-cancel. -/
theorem test_V65_eor_self_cancel :
    shows { cpu 0x8000 [(0x8000, 0x49), (0x8001, 0xAA)] with a := 0xAA } [] =
      some ⟨0x00, 0x00, 0x00, 0xFD, 0x36, 0x8002, 2, []⟩ := by decide +kernel

/-- V66 (R139): BIT: Z from A&m, N and V from m. -/
theorem test_V66_bit :
    shows { cpu 0x8000 [(0x8000, 0x24), (0x8001, 0x10)] with a := 0x01, ram := cells [(0x0010, 0xC0)] } [] =
      some ⟨0x01, 0x00, 0x00, 0xFD, 0xF6, 0x8002, 3, []⟩ := by decide +kernel

/-- V67 (R139): BIT clears N and V. -/
theorem test_V67_bit_clears_n_and_v :
    shows { cpu 0x8000 [(0x8000, 0x2C), (0x8001, 0x00), (0x8002, 0x02)] with a := 0xFF, p := 0xF4, ram := cells [(0x0200, 0x01)] } [] =
      some ⟨0xFF, 0x00, 0x00, 0xFD, 0x34, 0x8003, 4, []⟩ := by decide +kernel

/-- V68 (R141): ASL A. -/
theorem test_V68_asl_a :
    shows { cpu 0x8000 [(0x8000, 0x0A)] with a := 0x81 } [] =
      some ⟨0x02, 0x00, 0x00, 0xFD, 0x35, 0x8001, 2, []⟩ := by decide +kernel

/-- V69 (R141): ASL A to zero. -/
theorem test_V69_asl_a_to_zero :
    shows { cpu 0x8000 [(0x8000, 0x0A)] with a := 0x80 } [] =
      some ⟨0x00, 0x00, 0x00, 0xFD, 0x37, 0x8001, 2, []⟩ := by decide +kernel

/-- V70 (R141): ASL zp. -/
theorem test_V70_asl_zp :
    shows { cpu 0x8000 [(0x8000, 0x06), (0x8001, 0x10)] with ram := cells [(0x0010, 0x40)] } [0x0010] =
      some ⟨0x00, 0x00, 0x00, 0xFD, 0xB4, 0x8002, 5, [0x80]⟩ := by decide +kernel

/-- V71 (R142): LSR A. -/
theorem test_V71_lsr_a :
    shows { cpu 0x8000 [(0x8000, 0x4A)] with a := 0x03, p := 0xB4 } [] =
      some ⟨0x01, 0x00, 0x00, 0xFD, 0x35, 0x8001, 2, []⟩ := by decide +kernel

/-- V72 (R142): LSR abs. -/
theorem test_V72_lsr_abs :
    shows { cpu 0x8000 [(0x8000, 0x4E), (0x8001, 0x00), (0x8002, 0x02)] with ram := cells [(0x0200, 0x01)] } [0x0200] =
      some ⟨0x00, 0x00, 0x00, 0xFD, 0x37, 0x8003, 6, [0x00]⟩ := by decide +kernel

/-- V73 (R143): ROL A with C=1. -/
theorem test_V73_rol_a_with_c_1 :
    shows { cpu 0x8000 [(0x8000, 0x2A)] with a := 0x40, p := 0x35 } [] =
      some ⟨0x81, 0x00, 0x00, 0xFD, 0xB4, 0x8001, 2, []⟩ := by decide +kernel

/-- V74 (R143): ROL A with C=0, bit 7 out. -/
theorem test_V74_rol_a_with_c_0_bit_7_out :
    shows { cpu 0x8000 [(0x8000, 0x2A)] with a := 0x80 } [] =
      some ⟨0x00, 0x00, 0x00, 0xFD, 0x37, 0x8001, 2, []⟩ := by decide +kernel

/-- V75 (R144): ROR zp with C=1. -/
theorem test_V75_ror_zp_with_c_1 :
    shows { cpu 0x8000 [(0x8000, 0x66), (0x8001, 0x10)] with p := 0x35, ram := cells [(0x0010, 0x02)] } [0x0010] =
      some ⟨0x00, 0x00, 0x00, 0xFD, 0xB4, 0x8002, 5, [0x81]⟩ := by decide +kernel

/-- V76 (R144): ROR A with C=0, bit 0 out. -/
theorem test_V76_ror_a_with_c_0_bit_0_out :
    shows { cpu 0x8000 [(0x8000, 0x6A)] with a := 0x01 } [] =
      some ⟨0x00, 0x00, 0x00, 0xFD, 0x37, 0x8001, 2, []⟩ := by decide +kernel

/-- V77 (R141): ASL abs,X page cross: no penalty (7). -/
theorem test_V77_asl_abs_x_page_cross :
    shows { cpu 0x8000 [(0x8000, 0x1E), (0x8001, 0xFF), (0x8002, 0x02)] with x := 0x01, ram := cells [(0x0300, 0x01)] } [0x0300] =
      some ⟨0x00, 0x01, 0x00, 0xFD, 0x34, 0x8003, 7, [0x02]⟩ := by decide +kernel

/-- V78 (R146): BPL taken, same page. -/
theorem test_V78_bpl_taken_same_page :
    shows (cpu 0x8000 [(0x8000, 0x10), (0x8001, 0x04)]) [] =
      some ⟨0x00, 0x00, 0x00, 0xFD, 0x34, 0x8006, 3, []⟩ := by decide +kernel

/-- V79 (R147): BMI not taken. -/
theorem test_V79_bmi_not_taken :
    shows (cpu 0x8000 [(0x8000, 0x30), (0x8001, 0x04)]) [] =
      some ⟨0x00, 0x00, 0x00, 0xFD, 0x34, 0x8002, 2, []⟩ := by decide +kernel

/-- V80 (R148): BVC taken backwards (-2). -/
theorem test_V80_bvc_taken_backwards_2 :
    shows (cpu 0x8000 [(0x8000, 0x50), (0x8001, 0xFE)]) [] =
      some ⟨0x00, 0x00, 0x00, 0xFD, 0x34, 0x8000, 3, []⟩ := by decide +kernel

/-- V81 (R149): BVS taken, page cross. -/
theorem test_V81_bvs_taken_page_cross :
    shows { cpu 0x80F0 [(0x80F0, 0x70), (0x80F1, 0x10)] with p := 0x74 } [] =
      some ⟨0x00, 0x00, 0x00, 0xFD, 0x74, 0x8102, 4, []⟩ := by decide +kernel

/-- V82 (R150): BCC -$80, page cross. -/
theorem test_V82_bcc_80_page_cross :
    shows (cpu 0x8000 [(0x8000, 0x90), (0x8001, 0x80)]) [] =
      some ⟨0x00, 0x00, 0x00, 0xFD, 0x34, 0x7F82, 4, []⟩ := by decide +kernel

/-- V83 (R151): BCS +$7F. -/
theorem test_V83_bcs_7f :
    shows { cpu 0x8000 [(0x8000, 0xB0), (0x8001, 0x7F)] with p := 0x35 } [] =
      some ⟨0x00, 0x00, 0x00, 0xFD, 0x35, 0x8081, 3, []⟩ := by decide +kernel

/-- V84 (R152): BNE to $8000. -/
theorem test_V84_bne_to_8000 :
    shows (cpu 0x8005 [(0x8005, 0xD0), (0x8006, 0xF9)]) [] =
      some ⟨0x00, 0x00, 0x00, 0xFD, 0x34, 0x8000, 3, []⟩ := by decide +kernel

/-- V85 (R153): BEQ +0 at $FFFC. -/
theorem test_V85_beq_0_at_fffc :
    shows { cpu 0xFFFC [(0xFFFC, 0xF0), (0xFFFD, 0x00)] with p := 0x36 } [] =
      some ⟨0x00, 0x00, 0x00, 0xFD, 0x36, 0xFFFE, 3, []⟩ := by decide +kernel

/-- V86 (R153): BEQ not taken. -/
theorem test_V86_beq_not_taken :
    shows (cpu 0x8000 [(0x8000, 0xF0), (0x8001, 0x10)]) [] =
      some ⟨0x00, 0x00, 0x00, 0xFD, 0x34, 0x8002, 2, []⟩ := by decide +kernel

/-- V87 (R154): JMP abs. -/
theorem test_V87_jmp_abs :
    shows (cpu 0x8000 [(0x8000, 0x4C), (0x8001, 0x34), (0x8002, 0x12)]) [] =
      some ⟨0x00, 0x00, 0x00, 0xFD, 0x34, 0x1234, 3, []⟩ := by decide +kernel

/-- V89 (R154): JMP ($02FF), JMP_IND_PAGE_BUG=false. -/
theorem test_V89_jmp_02ff_jmp_ind_page_bug_false :
    shows { cpu 0x8000 [(0x8000, 0x6C), (0x8001, 0xFF), (0x8002, 0x02)] with ram := cells [(0x02FF, 0x34), (0x0300, 0x12), (0x0200, 0x56)] } [] =
      some ⟨0x00, 0x00, 0x00, 0xFD, 0x34, 0x1234, 5, []⟩ := by decide +kernel

/-- V122 (R102): JMP ($02FF), JMP_IND_PAGE_BUG=true. -/
theorem test_V122_jmp_02ff_jmp_ind_page_bug_true :
    shows { cpu 0x8000 [(0x8000, 0x6C), (0x8001, 0xFF), (0x8002, 0x02)] with ram := cells [(0x02FF, 0x34), (0x0300, 0x12), (0x0200, 0x56)], params := { Config.Params.default with jmpIndPageBug := true } } [] =
      some ⟨0x00, 0x00, 0x00, 0xFD, 0x34, 0x5634, 5, []⟩ := by decide +kernel

/-- V90 (R155): JSR. -/
theorem test_V90_jsr :
    shows (cpu 0x8010 [(0x8010, 0x20), (0x8011, 0x00), (0x8012, 0x90)]) [0x01FC, 0x01FB] =
      some ⟨0x00, 0x00, 0x00, 0xFB, 0x34, 0x9000, 6, [0x80, 0x12]⟩ := by decide +kernel

/-- V91 (R156): RTS. -/
theorem test_V91_rts :
    shows { cpu 0x8000 [(0x8000, 0x60)] with sp := 0xFB, ram := cells [(0x01FB, 0x12), (0x01FC, 0x80)] } [] =
      some ⟨0x00, 0x00, 0x00, 0xFD, 0x34, 0x8013, 6, []⟩ := by decide +kernel

/-- V92 (R156): RTS of $FFFF. -/
theorem test_V92_rts_of_ffff :
    shows { cpu 0x8000 [(0x8000, 0x60)] with sp := 0xFB, ram := cells [(0x01FB, 0xFF), (0x01FC, 0xFF)] } [] =
      some ⟨0x00, 0x00, 0x00, 0xFD, 0x34, 0x0000, 6, []⟩ := by decide +kernel

/-- V93 (R157): BRK. -/
theorem test_V93_brk :
    shows { cpu 0x8002 [(0x8002, 0x00), (0xFFFE, 0x00), (0xFFFF, 0x90)] with p := 0x36 } [0x01FC, 0x01FB, 0x01FA] =
      some ⟨0x00, 0x00, 0x00, 0xFA, 0x36, 0x9000, 7, [0x80, 0x03, 0x36]⟩ := by decide +kernel

/-- V95 (R158): RTI. -/
theorem test_V95_rti :
    shows { cpu 0x8000 [(0x8000, 0x40)] with sp := 0xFA, ram := cells [(0x01FA, 0x36), (0x01FB, 0x03), (0x01FC, 0x80)] } [] =
      some ⟨0x00, 0x00, 0x00, 0xFD, 0x36, 0x8003, 6, []⟩ := by decide +kernel

/-- V96 (R158): RTI pulls bits 4-5 verbatim. -/
theorem test_V96_rti_pulls_bits_4_5_verbatim :
    shows { cpu 0x8000 [(0x8000, 0x40)] with sp := 0xFA, ram := cells [(0x01FA, 0x00), (0x01FB, 0x00), (0x01FC, 0x90)] } [] =
      some ⟨0x00, 0x00, 0x00, 0xFD, 0x00, 0x9000, 6, []⟩ := by decide +kernel

/-- V97 (R159): PHA. -/
theorem test_V97_pha :
    shows { cpu 0x8000 [(0x8000, 0x48)] with a := 0x42 } [0x01FC] =
      some ⟨0x42, 0x00, 0x00, 0xFC, 0x34, 0x8001, 3, [0x42]⟩ := by decide +kernel

/-- V98 (R159): PHA at SP=$00 wraps. -/
theorem test_V98_pha_at_sp_00_wraps :
    shows { cpu 0x8000 [(0x8000, 0x48)] with a := 0x42, sp := 0x00 } [0x01FF] =
      some ⟨0x42, 0x00, 0x00, 0xFF, 0x34, 0x8001, 3, [0x42]⟩ := by decide +kernel

/-- V99 (R160): PHP pushes P unmodified. -/
theorem test_V99_php_pushes_p_unmodified :
    shows { cpu 0x8000 [(0x8000, 0x08)] with p := 0x04 } [0x01FC] =
      some ⟨0x00, 0x00, 0x00, 0xFC, 0x04, 0x8001, 3, [0x04]⟩ := by decide +kernel

/-- V100 (R161): PLA. -/
theorem test_V100_pla :
    shows { cpu 0x8000 [(0x8000, 0x68)] with sp := 0xFC, ram := cells [(0x01FC, 0x80)] } [] =
      some ⟨0x80, 0x00, 0x00, 0xFD, 0xB4, 0x8001, 4, []⟩ := by decide +kernel

/-- V101 (R161): PLA at SP=$FF wraps. -/
theorem test_V101_pla_at_sp_ff_wraps :
    shows { cpu 0x8000 [(0x8000, 0x68)] with a := 0x11, sp := 0xFF, ram := cells [(0x01FF, 0x00)] } [] =
      some ⟨0x00, 0x00, 0x00, 0x00, 0x36, 0x8001, 4, []⟩ := by decide +kernel

/-- V102 (R162): PLP. -/
theorem test_V102_plp :
    shows { cpu 0x8000 [(0x8000, 0x28)] with sp := 0xFC, ram := cells [(0x01FC, 0xC3)] } [] =
      some ⟨0x00, 0x00, 0x00, 0xFD, 0xC3, 0x8001, 4, []⟩ := by decide +kernel

/-- V103 (R162): PLP of $00 clears bits 4 and 5. -/
theorem test_V103_plp_of_00_clears_bits_4_and_5 :
    shows { cpu 0x8000 [(0x8000, 0x28)] with sp := 0xFC, ram := cells [(0x01FC, 0x00)] } [] =
      some ⟨0x00, 0x00, 0x00, 0xFD, 0x00, 0x8001, 4, []⟩ := by decide +kernel

/-- V104 (R163): CLC. -/
theorem test_V104_clc :
    shows { cpu 0x8000 [(0x8000, 0x18)] with p := 0x35 } [] =
      some ⟨0x00, 0x00, 0x00, 0xFD, 0x34, 0x8001, 2, []⟩ := by decide +kernel

/-- V105 (R164): CLD. -/
theorem test_V105_cld :
    shows { cpu 0x8000 [(0x8000, 0xD8)] with p := 0x3C } [] =
      some ⟨0x00, 0x00, 0x00, 0xFD, 0x34, 0x8001, 2, []⟩ := by decide +kernel

/-- V106 (R165): CLI. -/
theorem test_V106_cli :
    shows (cpu 0x8000 [(0x8000, 0x58)]) [] = some ⟨0x00, 0x00, 0x00, 0xFD, 0x30, 0x8001, 2, []⟩ := by decide +kernel

/-- V107 (R166): CLV. -/
theorem test_V107_clv :
    shows { cpu 0x8000 [(0x8000, 0xB8)] with p := 0x74 } [] =
      some ⟨0x00, 0x00, 0x00, 0xFD, 0x34, 0x8001, 2, []⟩ := by decide +kernel

/-- V108 (R167): SEC. -/
theorem test_V108_sec :
    shows (cpu 0x8000 [(0x8000, 0x38)]) [] = some ⟨0x00, 0x00, 0x00, 0xFD, 0x35, 0x8001, 2, []⟩ := by decide +kernel

/-- V109 (R168): SED. -/
theorem test_V109_sed :
    shows (cpu 0x8000 [(0x8000, 0xF8)]) [] = some ⟨0x00, 0x00, 0x00, 0xFD, 0x3C, 0x8001, 2, []⟩ := by decide +kernel

/-- V110 (R169): SEI. -/
theorem test_V110_sei :
    shows { cpu 0x8000 [(0x8000, 0x78)] with p := 0x30 } [] =
      some ⟨0x00, 0x00, 0x00, 0xFD, 0x34, 0x8001, 2, []⟩ := by decide +kernel

/-- V111 (R170): NOP. -/
theorem test_V111_nop :
    shows (cpu 0x8000 [(0x8000, 0xEA)]) [] = some ⟨0x00, 0x00, 0x00, 0xFD, 0x34, 0x8001, 2, []⟩ := by decide +kernel

/-- V112 (R171): NOP* zp $04. -/
theorem test_V112_nop_zp_04 :
    shows (cpu 0x8000 [(0x8000, 0x04), (0x8001, 0x10)]) [] =
      some ⟨0x00, 0x00, 0x00, 0xFD, 0x34, 0x8002, 3, []⟩ := by decide +kernel

/-- V113 (R171): NOP* imm $80. -/
theorem test_V113_nop_imm_80 :
    shows (cpu 0x8000 [(0x8000, 0x80), (0x8001, 0xFF)]) [] =
      some ⟨0x00, 0x00, 0x00, 0xFD, 0x34, 0x8002, 2, []⟩ := by decide +kernel

/-- V114 (R171): NOP* $EB (real SBC #imm). -/
theorem test_V114_nop_eb_real_sbc_imm :
    shows { cpu 0x8000 [(0x8000, 0xEB), (0x8001, 0x01)] with a := 0x05, p := 0x35 } [] =
      some ⟨0x05, 0x00, 0x00, 0xFD, 0x35, 0x8002, 2, []⟩ := by decide +kernel

/-- V115 (R171): NOP* abs $0C at $4014 (no DMA). -/
theorem test_V115_nop_abs_0c_at_4014_no_dma :
    shows (cpu 0x8000 [(0x8000, 0x0C), (0x8001, 0x14), (0x8002, 0x40)]) [] =
      some ⟨0x00, 0x00, 0x00, 0xFD, 0x34, 0x8003, 4, []⟩ := by decide +kernel

/-- V116 (R171): NOP* abs,X $1C page cross (+1). -/
theorem test_V116_nop_abs_x_1c_page_cross_1 :
    shows { cpu 0x8000 [(0x8000, 0x1C), (0x8001, 0xFF), (0x8002, 0x02)] with x := 0x01 } [] =
      some ⟨0x00, 0x01, 0x00, 0xFD, 0x34, 0x8003, 5, []⟩ := by decide +kernel

/-- V117 (R171): NOP* (zp),Y $13 (real SLO): fixed 8. -/
theorem test_V117_nop_zp_y_13_real_slo :
    shows { cpu 0x8000 [(0x8000, 0x13), (0x8001, 0x40)] with y := 0x10, ram := cells [(0x0040, 0xF8), (0x0041, 0x03), (0x0408, 0x01)] } [0x0408] =
      some ⟨0x00, 0x00, 0x10, 0xFD, 0x34, 0x8002, 8, [0x01]⟩ := by decide +kernel

/-- V118 (R171): NOP* LAX abs,Y $BF page cross (+1). -/
theorem test_V118_nop_lax_abs_y_bf_page_cross_1 :
    shows { cpu 0x8000 [(0x8000, 0xBF), (0x8001, 0xFF), (0x8002, 0x02)] with y := 0x01 } [] =
      some ⟨0x00, 0x00, 0x01, 0xFD, 0x34, 0x8003, 5, []⟩ := by decide +kernel

/-- V119 (R171): NOP* imp $1A. -/
theorem test_V119_nop_imp_1a :
    shows { cpu 0x8000 [(0x8000, 0x1A)] with a := 0x05 } [] =
      some ⟨0x05, 0x00, 0x00, 0xFD, 0x34, 0x8001, 2, []⟩ := by decide +kernel

/-- V120 (R172): KIL $02. -/
theorem test_V120_kil_02 :
    shows { cpu 0x8123 [(0x8123, 0x02), (0xFFFC, 0x00), (0xFFFD, 0x80)] with a := 0x11, x := 0x22, y := 0x33, p := 0xC3, tick := 100 } [] =
      some ⟨0x00, 0x00, 0x00, 0xFA, 0x34, 0x8000, 102, []⟩ := by decide +kernel

/-- V121 (R172): KIL $F2 with SP=$01. -/
theorem test_V121_kil_f2_with_sp_01 :
    shows { cpu 0x8123 [(0x8123, 0xF2), (0xFFFC, 0x00), (0xFFFD, 0x80)] with sp := 0x01 } [] =
      some ⟨0x00, 0x00, 0x00, 0xFE, 0x34, 0x8000, 2, []⟩ := by decide +kernel

/-- V123 (R104): INDY: pointer at $FF, ZP_PTR_WRAP=false (high byte from $0100). -/
theorem test_V123_indy :
    shows { cpu 0x8000 [(0x8000, 0xB1), (0x8001, 0xFF)] with ram := cells [(0x00FF, 0x10), (0x0000, 0x05), (0x0100, 0x06), (0x0610, 0x3D), (0x0510, 0x3C)], params := { Config.Params.default with zpPtrWrap := false } } [] =
      some ⟨0x3D, 0x00, 0x00, 0xFD, 0x34, 0x8002, 5, []⟩ := by decide +kernel

/-- V125 (R49): STA $4014 with T0 odd: 4 + 514. -/
theorem test_V125_sta_4014_with_t0_odd :
    shows { cpu 0x8000 [(0x8000, 0x8D), (0x8001, 0x14), (0x8002, 0x40)] with a := 0x02, tick := 1 } [] =
      some ⟨0x02, 0x00, 0x00, 0xFD, 0x34, 0x8003, 519, []⟩ := by decide +kernel

/-! ### The picture generator, the DMA and the requests -/

/-- V126 (R46): a byte for $3FFE reaches register 6; the window mirrors every 8 bytes. -/
theorem test_V126_window_write : ((cpu 0x8000 []).busWrite 0x3FFE 0xAA).ppu.log = [.write 6 0xAA] := by decide +kernel

/-- V124 (R49): the bytes of the DMA are those of page 2, in order; here the first two of them, and their number. -/
theorem test_V124_dma_bytes :
    (match step { cpu 0x8000 [(0x8000, 0x8D), (0x8001, 0x14), (0x8002, 0x40)] with
        a := 0x02, ram := cells [(0x0200, 0x5A), (0x0201, 0x5B)] } with
      | .next t => t.ppu.log.map fun e => match e with
        | .oamBurst bytes => (bytes.take 3, bytes.length)
        | _ => ([], 0)
      | _ => []) = [([0x5A, 0x5B, 0x00], 256)] := by decide +kernel

/-- R171, D6: the immediate operand of a NOP is not read, so a NOP # before the window reads nothing there. -/
theorem test_nop_immediate_reads_nothing :
    (match step { cpu 0x1FFF [] with ram := cells [(0x07FF, 0x80)] } with
      | .next t => some (t.ppu.log, t.pc)
      | _ => none) = some ([], 0x2001) := by decide +kernel

/-- The fixture of the I vectors: NOP at $8000 and $9100, vectors $9100, $8000, $9200. -/
def board : List (Nat × Byte) :=
  [(0x8000, 0xEA), (0x9100, 0xEA), (0xFFFB, 0x91), (0xFFFD, 0x80), (0xFFFF, 0x92)]

/-- I1 (R180). -/
theorem test_I1_nmi_entry : shows (cpu 0x8000 board).requestNmi [0x01FC, 0x01FB, 0x01FA] =
    some ⟨0x00, 0x00, 0x00, 0xFA, 0x34, 0x9100, 7, [0x80, 0x00, 0x24]⟩ := by decide +kernel

/-- I2 (R181). -/
theorem test_I2_irq_entry : shows ({ cpu 0x8000 board with p := 0x30 }.driveIrq true) [0x01FC, 0x01FB, 0x01FA] =
    some ⟨0x00, 0x00, 0x00, 0xFA, 0x34, 0x9200, 7, [0x80, 0x00, 0x20]⟩ := by decide +kernel

/-- I3 (R175): IRQ masked. -/
theorem test_I3_irq_masked : shows ((cpu 0x8000 board).driveIrq true) [] =
    some ⟨0x00, 0x00, 0x00, 0xFD, 0x34, 0x8001, 2, []⟩ := by decide +kernel

/-- I4 (R175): NMI goes before IRQ. -/
theorem test_I4_nmi_before_irq : shows ({ cpu 0x8000 board with p := 0x30 }.driveIrq true).requestNmi [] =
    some ⟨0x00, 0x00, 0x00, 0xFA, 0x34, 0x9100, 7, []⟩ := by decide +kernel

/-- I5 (R179): RESET goes before both. -/
theorem test_I5_reset_first :
    shows ({ cpu 0x8000 board with a := 1, x := 2, y := 3, p := 0xFF, sp := 0x10 }.driveIrq true).requestNmi.requestReset [] =
    some ⟨0x00, 0x00, 0x00, 0x0D, 0x34, 0x8000, 0, []⟩ := by decide +kernel

/-- I7, S5 (C9): the RESET vector is little-endian. -/
theorem test_I7_reset_vector :
    shows (State.construct .default (.board (cells [(0xFFFC, 0x56), (0xFFFD, 0x78)]) []) 1 2 3 4 5).requestReset [] =
    some ⟨0x00, 0x00, 0x00, 0xFD, 0x34, 0x7856, 0, []⟩ := by decide +kernel

/-! ### The frame driver, the fetch word and memory -/

/-- R106, R210: with a budget of 5, two NOPs (2 cycles each) leave `tick` below it; the third takes it to 6. -/
theorem test_frame_keeps_the_remainder :
    (match runFrame 5 (cpu 0x8000 [(0x8000, 0xEA), (0x8001, 0xEA), (0x8002, 0xEA), (0x8003, 0xEA)]) with
      | .next t => some (t.tick, t.pc, t.frame)
      | _ => none) = some (6, 0x8003, { frameEnd := 5, busy := false }) := by decide +kernel

/-- The very next step after `withFetchWord` runs the word's instruction, from State.reset and from a board. -/
theorem test_fetch_word_runs_next :
    (State.reset.withFetchWord 16 0x42A9).fetch.1 = .ldaImm 0x42 ∧
    shows (State.reset.withFetchWord 16 0x42A9) [] = some ⟨0x42, 0x00, 0x00, 0xFD, 0x34, 0x0002, 2, []⟩ ∧
    shows ((cpu 0x8000 board).requestNmi.withFetchWord 24 0x00904C) [] =
      some ⟨0x00, 0x00, 0x00, 0xFD, 0x34, 0x0090, 3, []⟩ := by decide +kernel

/-- R30: writing 0 removes the cell, and the order of writes does not show. -/
theorem test_memory_is_canonical :
    cells [(5, 1), (3, 2), (5, 0)] = [(3, 2)] ∧ cells [(5, 1), (3, 2)] = cells [(3, 2), (5, 7), (5, 1)] ∧
    Memory.wf [(3, 2), (3, 4)] = false ∧ Memory.wf [(3, 0)] = false ∧ State.reset.Inv = true := by decide

/-! ### Hypotheses that are met: one theorem for each statement that has some, with a boundary value for each clause -/

theorem witness_EncodeOfDecodeGivesBack : decode [0xA9, 0x42, 0x99] = .ok (.ldaImm 0x42) [0x99] := by decide

/-- A listed and an unlisted opcode, each with a page cross (LDA and STA $12F0,X with X = $20), a taken branch and a write of $4014. -/
theorem witness_PageCrossCycleIsChargedByTheListedOpcodes :
    (Instr.ldaAbsX 0x12F0).opcode ∈ pageCrossOpcodes ∧ (Instr.staAbsX 0x12F0).opcode ∉ pageCrossOpcodes ∧
    ((State.reset.setX 0x20).resolved (.ldaAbsX 0x12F0)).cross = true ∧ ((State.reset.setX 0x20).resolved (.staAbsX 0x12F0)).cross = true ∧
    State.reset.takes (Instr.bne 0x00).entry.op = true ∧ (Instr.bne 0x00).opcode ∉ pageCrossOpcodes ∧
    writesOperand (Instr.staAbs 0x4014).entry.op = true ∧ (State.reset.resolved (.staAbs 0x4014)).ea = .mem 0x4014 := by decide +kernel

/-- Clause 1 at $0000, before the window and at the end of the address space. -/
theorem witness_StepRunsTheDecodedInstruction_plain :
    ([0x0000#16, 0x1FFD#16, 0x4000#16, 0xFFFF#16].all fun pc =>
      let s := State.reset.setPc pc
      decide (s.resetReq = false ∧ s.nmiPending = false ∧ s.irqLine = false ∧ inWindow s.pc = false ∧
        inWindow (s.pc + 1) = false ∧ inWindow (s.pc + 2) = false ∧
        decode [s.peek s.pc, s.peek (s.pc + 1), s.peek (s.pc + 2)] = .ok .brk [0x00, 0x00])) = true := by
  decide +kernel

/-- Clauses 2 to 4 with PC in the window, where the opcode is what the picture generator answers. -/
theorem witness_StepRunsTheDecodedInstruction_window :
    ([(0xEA#8, 0), (0xA9#8, 1), (0x80#8, 1), (0xAD#8, 2)].all fun c =>
      let s := (State.reset.setPc 0x2000).layAnswers [c.1]
      decide (s.resetReq = false ∧ s.nmiPending = false ∧ s.irqLine = false ∧
        (table (s.peek s.pc)).mode.operandBytes = c.2)) = true := by
  decide +kernel

theorem witness_StepKeepsMemoryCanonical : State.reset.Inv = true ∧ (cpu 0x8000 board).Inv = true := by decide +kernel

theorem witness_CanonicalMemoriesThatReadAlikeAreEqual : Memory.wf [(3, 1), (9, 2)] = true ∧
    ∀ k, Memory.read [(3, 1), (9, 2)] k = Memory.read (Memory.write [(9, 2)] 3 1) k :=
  ⟨by decide, fun _ => rfl⟩

theorem witness_EveryBoundaryButResetTakesCycles : State.reset.requestReset.resetReq = true ∧ State.reset.resetReq = false := by decide

/-- The first and the last RAM address. -/
theorem witness_PowerOnResetGivesLaunchState : (0x0000#16).toNat < 0x2000 ∧ (0x1FFF#16).toNat < 0x2000 := by decide

theorem witness_OverflowFlagIsSignedOverflow : ∃ t, exec (.adcImm 0x01) State.reset = .next t ∧ t.flag .v = false := ⟨_, rfl, rfl⟩

theorem witness_ResetRequestIsTakenFirst : State.reset.requestNmi.requestReset.resetReq = true := by decide

theorem witness_NmiEntry : State.reset.requestNmi.resetReq = false ∧ State.reset.requestNmi.nmiPending = true := by decide

theorem witness_IrqEntry : let s := (State.reset.setFlag .i false).driveIrq true
    s.resetReq = false ∧ s.nmiPending = false ∧ s.irqLine = true ∧ s.flag .i = false := by decide

theorem witness_InterruptDisableCountsAtTheNextBoundary : let s := State.reset.driveIrq true
    s.resetReq = false ∧ s.nmiPending = false ∧ s.irqLine = true := by decide

theorem witness_RtiUndoesAnEntry : (State.reset.requestNmi.resetReq = false ∧ State.reset.requestNmi.nmiPending = true) ∧
    (let s := (State.reset.setFlag .i false).driveIrq true; s.resetReq = false ∧ s.irqLine = true ∧ s.flag .i = false) := by decide

theorem witness_RunFrameRunsUntilTheBudgetIsSpent : State.reset.frame.busy = false ∧ (0 : Rat) ≤ 5 := by decide +kernel

theorem witness_NestedRunFrameIsANoOp : (State.reset.setFrame { frameEnd := 0, busy := true }).frame.busy = true := by decide

/-- A NOP is outside every list of writers. -/
theorem witness_RegistersHaveOnlyTheListedWriters : Instr.nop.entry.op = .nop ∧ Instr.nop.entry.mode = .imp ∧
    Op.nop ∉ [Op.lda, .pla, .txa, .tya, .adc, .sbc, .and, .ora, .eor, .kil] ∧ Op.nop ∉ [Op.asl, .lsr, .rol, .ror] := by decide

/-- A shift of memory is outside the clause that lets a shift write A. -/
theorem witness_RegistersHaveOnlyTheListedWriters_memory_shift :
    (Instr.aslZp 0x10).entry.op = .asl ∧ (Instr.aslZp 0x10).entry.mode ≠ .acc := by decide

theorem witness_FlagsHaveOnlyTheListedWriters : (Instr.staAbs 0x0200).entry.op = .sta ∧
    Op.sta ∉ [Op.adc, .sbc, .cmp, .cpx, .cpy, .asl, .lsr, .rol, .ror, .clc, .sec, .plp, .rti, .kil] := by decide

theorem witness_DecimalBreakAndUnusedGateNothing : Flag.d ∈ [Flag.d, .b, .u] ∧ (Instr.adcImm 0x01).entry.op = .adc ∧
    Op.adc ∉ [Op.php, .brk, .plp, .rti, .kil, .cld, .sed] := by decide

/-- One cell through the first and the last mirror, two cells, and the last address. -/
theorem witness_RamMirrorsShareOneCell : (0x0000#16).toNat < 0x2000 ∧ (0x1FFF#16).toNat < 0x2000 ∧
    (0x07FF#16).toNat % 0x800 = (0x1FFF#16).toNat % 0x800 ∧ (0x0000#16).toNat % 0x800 ≠ (0x1FFF#16).toNat % 0x800 := by decide

/-- Every clause of `Stored` at its boundaries; no address falls under two of them. -/
theorem witness_ByteWriteEffectByRegion :
    ([0x0000#16, 0x1FFF#16].all fun a => decide (a.toNat < 0x2000 ∧ inWindow a = false ∧ a ≠ 0x4014 ∧ ¬ 0x4000 ≤ a.toNat)) = true ∧
    ([0x2000#16, 0x3FFF#16].all fun a => decide (¬ a.toNat < 0x2000 ∧ inWindow a = true ∧ a ≠ 0x4014 ∧ ¬ 0x4000 ≤ a.toNat)) = true ∧
    ([0x4000#16, 0x4013#16, 0x4015#16, 0x4017#16].all fun a => decide (inWindow a = false ∧ 0x4000 ≤ a.toNat ∧ a.toNat < 0x4018 ∧ a ≠ 0x4014)) = true ∧
    ([0x4018#16, 0xFFFF#16].all fun a => decide (inWindow a = false ∧ a ≠ 0x4014 ∧ ¬ a.toNat < 0x4018 ∧ 0x4018 ≤ a.toNat)) = true ∧
    (∀ id ws, State.reset.cart ≠ .external id ws) :=
  ⟨by decide +kernel, by decide +kernel, by decide +kernel, by decide +kernel, fun _ _ h => nomatch h⟩

/-- The board keeps a byte at both ends of its RAM, and nothing beside it. -/
theorem witness_CartridgeContract : ([0x4018#16, 0x5FFF#16, 0x6000#16, 0x7FFF#16, 0x8000#16, 0xFFFF#16].all fun a => decide (0x4018 ≤ a.toNat)) = true ∧
    ([0x6000#16, 0x7FFF#16].all fun a => decide (((Cart.board [] []).write a 0x55).read a = 0x55)) = true ∧
    ([0x5FFF#16, 0x8000#16].all fun a => decide (((Cart.board [] []).write a 0x55).read a = 0x00)) = true := by decide +kernel

theorem witness_StubsReadZeroAndDiscardWrites :
    ([0x4000#16, 0x4014#16, 0x4017#16].all fun a => decide (0x4000 ≤ a.toNat ∧ a.toNat < 0x4018)) = true := by decide +kernel

theorem witness_PictureGeneratorWindow : ([0x2000#16, 0x3FFF#16].all fun a => decide (0x2000 ≤ a.toNat ∧ a.toNat < 0x4000)) = true ∧
    (State.reset.layAnswers [0x11, 0x22]).ppu.answers = 0x11 :: [0x22] := by decide +kernel

/-- The pages beside the window and the window's first and last. -/
theorem witness_OamDmaCopiesAPage : ([0x1F#8, 0x40#8, 0xFF#8].all fun v => decide (v.toNat < 0x20 ∨ 0x40 ≤ v.toNat)) = true ∧
    ([0x20#8, 0x3F#8].all fun v => decide (0x20 ≤ v.toNat ∧ v.toNat < 0x40)) = true ∧ 0 < (State.reset.layAnswers [0x11]).ppu.answers.length := by decide +kernel

/-- At the end of the address space the high byte is at $0000; at $1FFF it is in the window, outside the last clause. -/
theorem witness_WordReadIsTwoByteReadsLowByteFirst : inWindow 0xFFFF = false ∧ inWindow (0xFFFF + 1) = false ∧
    inWindow (0x1FFF + 1) = true := by decide

theorem witness_PullAnswersThePush : (State.reset.setSp 0x00).sp = 0x00 := by decide

theorem witness_ResolverPointerModes : State.reset.params.zpPtrWrap = true ∧
    (State.construct { Config.Params.default with zpPtrWrap := false } .null 0 0 0 0 0).params.zpPtrWrap = false := by decide

theorem witness_BranchesTestOneFlag : (∀ f : Flag, f ∈ [Flag.c, .z, .n, .v] →
    (State.reset.setFlag f true).flag f = true ∧ (State.reset.setFlag f false).flag f = false) := by
  intro f _; cases f <;> exact ⟨rfl, rfl⟩

theorem witness_JumpsGoToTheirTarget : (0x02FF#16).toNat % 256 = 255 ∧
    (State.construct { Config.Params.default with jmpIndPageBug := true } .null 0 0 0 0 0).params.jmpIndPageBug = true := by decide

/-- A state with another A, X, Y, P and PC than the JSR left, at the SP whose second byte wraps to $0100. -/
theorem witness_RtsReturnsBehindTheJsr :
    (match exec (.jsr 0x9000) (State.reset.setSp 0x01) with
      | .next t => let v := (((t.setA 0x11).setX 0x22).setP 0x00).setPc 0x1234
        decide (t.sp = 0xFF ∧ v.sp = t.sp ∧ v.peek (stackAddr t.sp) = t.peek (stackAddr t.sp) ∧
          v.peek (stackAddr (t.sp + 1)) = t.peek (stackAddr (t.sp + 1)) ∧ v ≠ t)
      | _ => false) = true := by decide +kernel

/-- An address (in RAM and in the window), the sentinel, and an immediate operand at the end of the address space. -/
theorem witness_OperandIsReadOnce :
    (State.reset.resolved (.ldaAbs 0x0000)).ea = .mem 0x0000 ∧ (State.reset.resolved (.incAbs 0x2007)).ea = .mem 0x2007 ∧
    (State.reset.resolved .aslAcc).ea = .implied ∧
    ((State.reset.setPc 0xFFFF).resolved (.ldaImm 0x42)).ea = .imm 0x0000 0x42 := by decide +kernel

/-- The power-on status byte (R38): I, B and U. -/
theorem test_status_byte_at_launch : ([Flag.c, .z, .i, .d, .b, .u, .v, .n].map State.reset.flag) =
    [false, false, true, false, true, true, false, false] := by decide

/-- STA $1803 over the byte at $0003, the instruction after an STA at $0000. -/
theorem witness_StoreIsSeenByTheNextFetch : (0x1803#16).toNat < 0x2000 ∧ (State.reset.pc + 3).toNat < 0x2000 ∧
    (0x1803#16).toNat % 0x800 = (State.reset.pc + 3).toNat % 0x800 := by decide

end Sys2Proof.Tests
end

section
/-! The request inputs, the parameters and the frame driver (10_state.md R32, 00_scope.md R6, 40_engine.md R106): every shared
operation keeps them, so every operation but KIL does, and a boundary only takes the latched requests. -/

namespace Sys2Proof.Machine

theorem InputsKept.refl (s : State) : InputsKept s s := ⟨rfl, rfl, rfl, rfl, rfl⟩

theorem InputsKept.trans {s t u : State} (h : InputsKept s t) (h' : InputsKept t u) : InputsKept s u := by
  obtain ⟨reset, nmi, irq, params, frame⟩ := h
  obtain ⟨reset', nmi', irq', params', frame'⟩ := h'
  exact ⟨reset'.trans reset, nmi'.trans nmi, irq'.trans irq, params'.trans params, frame'.trans frame⟩

/-- What is kept from a state with no request latched, clause by clause as O11 has it. -/
theorem InputsKept.of_unlatched {s t : State} (h : InputsKept s t) (hr : s.resetReq = false) (hn : s.nmiPending = false) :
    t.irqLine = s.irqLine ∧ t.resetReq = false ∧ t.nmiPending = false ∧ t.params = s.params ∧ t.frame = s.frame := by
  obtain ⟨reset, nmi, irq, params, frame⟩ := h
  exact ⟨irq, reset.trans hr, nmi.trans hn, params, frame⟩

section
variable (s : State)

/-! ### The shared operations

Setting a register, a flag, RAM, the picture generator or the cartridge, or adding cycles, is no write to an input, by
definition: the proofs below see through those updates. -/

theorem State.inputsKept_setPpu (u : Ppu) : InputsKept s (s.setPpu u) := .refl s

theorem State.inputsKept_readWord (a : Addr) : InputsKept s (s.readWord a).2 := by
  rw [State.readWord_snd_eq]; exact s.inputsKept_setPpu _

theorem State.inputsKept_readOperand (ea : EA) : InputsKept s (s.readOperand ea).2 := by
  rw [State.readOperand_snd_eq]; exact s.inputsKept_setPpu _

theorem State.inputsKept_resolve (m : Mode) (w : Addr) : InputsKept s (s.resolve m w).state := by
  rw [State.resolve_state_eq]; exact s.inputsKept_setPpu _

theorem State.inputsKept_fetch : InputsKept s s.fetch.2 := by
  rw [State.fetch_snd_eq]; exact s.inputsKept_setPpu _

theorem State.inputsKept_busWrite (a : Addr) (v : Byte) : InputsKept s (s.busWrite a v) := by
  rw [State.busWrite_eq]; exact .refl s

theorem State.inputsKept_writeOperand (ea : EA) (v : Byte) : InputsKept s (s.writeOperand ea v) := by
  cases ea with
  | implied => exact .refl s
  | imm a _ => exact s.inputsKept_busWrite a v
  | mem a => exact s.inputsKept_busWrite a v

/-- Read the operand, then write it: INC, DEC and the shifts. -/
theorem State.inputsKept_modifyOperand (ea : EA) (v : Byte) : InputsKept s ((s.readOperand ea).2.writeOperand ea v) :=
  (s.inputsKept_readOperand ea).trans (State.inputsKept_writeOperand _ ea v)

theorem State.inputsKept_jumpTo (ea : EA) : InputsKept s (s.jumpTo ea) := by
  cases ea <;> exact .refl s

theorem State.inputsKept_branch (cond : Bool) (ea : EA) : InputsKept s (s.branch cond ea) := by
  cases cond with
  | false => exact .refl s
  | true => exact s.inputsKept_jumpTo ea

theorem State.inputsKept_push (v : Byte) : InputsKept s (s.push v) := by
  rw [State.push_eq]; exact .refl s

theorem State.inputsKept_pushWord (w : Addr) : InputsKept s (s.pushWord w) := by
  rw [State.pushWord_eq]; exact .refl s

theorem State.inputsKept_pull : InputsKept s s.pull.2 := by
  rw [State.pull_eq]; exact .refl s

theorem State.inputsKept_pullWord : InputsKept s s.pullWord.2 := by
  rw [State.pullWord_eq]; exact .refl s

/-- The entry of NMI, IRQ and BRK: only pushes and the read of the vector could touch an input. -/
theorem State.inputsKept_enterVia (ret : Addr) (pushed : Byte) (vector : Addr) :
    InputsKept s (s.enterVia ret pushed vector) := by
  have pushes : InputsKept s (((s.pushWord ret).push pushed).setFlag .i true) :=
    (s.inputsKept_pushWord ret).trans (State.inputsKept_push _ pushed)
  exact pushes.trans (State.inputsKept_readWord _ vector)

theorem State.inputsKept_enterInterrupt (vector : Addr) : InputsKept s (s.enterInterrupt vector) :=
  s.inputsKept_enterVia _ _ vector

theorem State.inputsKept_returnFromInterrupt : InputsKept s s.returnFromInterrupt := by
  rw [State.returnFromInterrupt_eq]; exact .refl s

/-- RESET clears the two latched requests (60_exceptions.md R179), so it keeps the inputs where neither is latched. -/
theorem State.inputsKept_resetSequence (hr : s.resetReq = false) (hn : s.nmiPending = false) :
    InputsKept s s.resetSequence := by
  rw [State.resetSequence_eq]; exact ⟨hr.symm, hn.symm, rfl, rfl, rfl⟩

/-! ### Instructions and the boundary -/

/-- Every operation but KIL, which performs a RESET, keeps the inputs. -/
theorem Op.inputsKept_body {op : Op} (h : op ≠ .kil) (ea : EA) : InputsKept s (Op.body op ea s) := by
  cases op with
  | lda | ldx | ldy | adc | sbc | cmp | cpx | cpy | and | ora | eor | bit => exact s.inputsKept_readOperand ea
  | sta | stx | sty => exact s.inputsKept_writeOperand ea _
  | inc | dec | asl | lsr | rol | ror => exact s.inputsKept_modifyOperand ea _
  | tax | tay | txa | tya | tsx | txs | inx | iny | dex | dey => exact .refl s
  | clc | cld | cli | clv | sec | sed | sei | nop => exact .refl s
  | bpl | bmi | bvc | bvs | bcc | bcs | bne | beq => exact s.inputsKept_branch _ ea
  | jmp => exact s.inputsKept_jumpTo ea
  | jsr => exact (s.inputsKept_pushWord _).trans (State.inputsKept_jumpTo _ ea)
  | rts => exact s.inputsKept_pullWord
  | brk => exact s.inputsKept_enterVia _ _ _
  | rti => exact s.inputsKept_returnFromInterrupt
  | pha | php => exact s.inputsKept_push _
  | pla | plp => exact s.inputsKept_pull
  | kil => exact absurd rfl h

/-- With no request latched KIL keeps the inputs as well. -/
theorem Op.inputsKept_body_of_unlatched (op : Op) (ea : EA) (hr : s.resetReq = false) (hn : s.nmiPending = false) :
    InputsKept s (Op.body op ea s) := by
  by_cases h : op = .kil
  · subst h; exact s.inputsKept_resetSequence hr hn
  · exact Op.inputsKept_body s h ea

theorem State.inputsKept_after (e : Entry) (w : Addr) (hr : s.resetReq = false) (hn : s.nmiPending = false) :
    InputsKept s (s.after e w) := by
  have resolved : InputsKept s (s.resolve e.mode w).state := s.inputsKept_resolve e.mode w
  obtain ⟨-, hr', hn', -⟩ := resolved.of_unlatched hr hn
  exact resolved.trans (Op.inputsKept_body_of_unlatched _ e.op _ hr' hn')

end

/-- Settles O11, by the four things a boundary can do (60_exceptions.md R175): RESET clears both latches, NMI entry starts with its
own latch cleared, and IRQ entry and an instruction come only where neither is set. -/
theorem stepLeavesHostInputsToTheHost : Obligations.StepLeavesHostInputsToTheHost := by
  unfold Obligations.StepLeavesHostInputsToTheHost
  intro s
  obtain ⟨-, reset⟩ | ⟨hr, -, nmi⟩ | ⟨hr, hn, -, -, irq⟩ | ⟨hr, hn, -, idle⟩ := s.takeRequest_cases
  · exact ⟨_, step_of_request s reset, by simp [State.resetSequence_eq]⟩
  · exact ⟨_, step_of_request s nmi, ((s.setNmiPending false).inputsKept_enterInterrupt _).of_unlatched hr rfl⟩
  · exact ⟨_, step_of_request s irq, (s.inputsKept_enterInterrupt _).of_unlatched hr hn⟩
  · have fetched : InputsKept s s.fetch.2 := s.inputsKept_fetch
    obtain ⟨-, hr', hn', -⟩ := fetched.of_unlatched hr hn
    exact ⟨_, (step_of_no_request s idle).trans (exec_eq_after _ _),
      (fetched.trans (State.inputsKept_after _ _ _ hr' hn')).of_unlatched hr hn⟩

end Sys2Proof.Machine
end

section
/-! The memory invariant: every shared operation keeps it, so every operation and every boundary does (10_state.md R30, R36). -/

namespace Sys2Proof.Machine

section
variable {s : State}

/-! ### The shared operations

An update of a register, a flag, PC, the picture generator or the cycle count touches neither RAM nor the cartridge, by
definition: the proofs below see through those. -/

theorem State.Inv_readWord (h : s.Inv = true) (a : Addr) : (s.readWord a).2.Inv = true := by
  rw [State.readWord_snd_eq]; exact h

theorem State.Inv_readOperand (h : s.Inv = true) (ea : EA) : (s.readOperand ea).2.Inv = true :=
  State.Inv_of_eq h (s.readOperand_ram ea) (s.readOperand_cart ea)

theorem State.Inv_modifyOperand (h : s.Inv = true) (ea : EA) (v : Byte) :
    ((s.readOperand ea).2.writeOperand ea v).Inv = true :=
  State.Inv_writeOperand _ ea v (State.Inv_readOperand h ea)

theorem State.Inv_jumpTo (h : s.Inv = true) (ea : EA) : (s.jumpTo ea).Inv = true := by
  cases ea <;> exact h

theorem State.Inv_branch (h : s.Inv = true) (cond : Bool) (ea : EA) : (s.branch cond ea).Inv = true := by
  cases cond with
  | false => exact h
  | true => exact State.Inv_jumpTo h ea

theorem State.Inv_pull (h : s.Inv = true) : s.pull.2.Inv = true := by
  rw [State.pull_eq]; exact h

theorem State.Inv_pullWord (h : s.Inv = true) : s.pullWord.2.Inv = true := by
  rw [State.pullWord_eq]; exact h

/-- The entry of NMI, IRQ and BRK writes memory by its three pushes alone. -/
theorem State.Inv_enterVia (h : s.Inv = true) (ret : Addr) (pushed : Byte) (vector : Addr) :
    (s.enterVia ret pushed vector).Inv = true := by
  have pushes : (((s.pushWord ret).push pushed).setFlag .i true).Inv = true :=
    State.Inv_push _ pushed (State.Inv_pushWord s ret h)
  exact State.Inv_readWord pushes vector

theorem State.Inv_enterInterrupt (h : s.Inv = true) (vector : Addr) : (s.enterInterrupt vector).Inv = true :=
  State.Inv_enterVia h _ _ vector

theorem State.Inv_returnFromInterrupt (h : s.Inv = true) : s.returnFromInterrupt.Inv = true := by
  rw [State.returnFromInterrupt_eq]; exact h

theorem State.Inv_resetSequence (h : s.Inv = true) : s.resetSequence.Inv = true := by
  rw [State.resetSequence_eq]; exact h

/-! ### Instructions and the boundary -/

theorem Op.Inv_body (h : s.Inv = true) (op : Op) (ea : EA) : (Op.body op ea s).Inv = true := by
  cases op with
  | lda | ldx | ldy | adc | sbc | cmp | cpx | cpy | and | ora | eor | bit => exact State.Inv_readOperand h ea
  | sta | stx | sty => exact State.Inv_writeOperand s ea _ h
  | inc | dec | asl | lsr | rol | ror => exact State.Inv_modifyOperand h ea _
  | tax | tay | txa | tya | tsx | txs | inx | iny | dex | dey => exact h
  | clc | cld | cli | clv | sec | sed | sei | nop => exact h
  | bpl | bmi | bvc | bvs | bcc | bcs | bne | beq => exact State.Inv_branch h _ ea
  | jmp => exact State.Inv_jumpTo h ea
  | jsr => exact State.Inv_jumpTo (State.Inv_pushWord s _ h) ea
  | rts => exact State.Inv_pullWord h
  | brk => exact State.Inv_enterVia h _ _ _
  | rti => exact State.Inv_returnFromInterrupt h
  | pha | php => exact State.Inv_push s _ h
  | pla | plp => exact State.Inv_pull h
  | kil => exact State.Inv_resetSequence h

theorem State.Inv_after (h : s.Inv = true) (e : Entry) (w : Addr) : (s.after e w).Inv = true := by
  have resolved : ((s.resolve e.mode w).state.setPc (s.pc + BitVec.ofNat 16 e.mode.length)).Inv = true :=
    State.Inv_of_eq h (s.resolve_ram e.mode w) (s.resolve_cart e.mode w)
  exact Op.Inv_body resolved e.op _

theorem State.Inv_fetch (h : s.Inv = true) : s.fetch.2.Inv = true := by
  rw [State.fetch_snd_eq]; exact h

/-- Every request taken keeps the invariant (60_exceptions.md R175). -/
theorem State.Inv_takeRequest (h : s.Inv = true) {t : State} (ht : s.takeRequest = some t) : t.Inv = true := by
  obtain ⟨-, reset⟩ | ⟨-, -, nmi⟩ | ⟨-, -, -, -, irq⟩ | ⟨-, -, -, idle⟩ := s.takeRequest_cases
  · cases reset.symm.trans ht; exact State.Inv_resetSequence h
  · cases nmi.symm.trans ht; exact State.Inv_enterInterrupt (s := s.setNmiPending false) h _
  · cases irq.symm.trans ht; exact State.Inv_enterInterrupt h _
  · cases idle.symm.trans ht

end

/-- Settles O8: the invariant is kept by each request that a boundary can take, by the fetch, and by every instruction. -/
theorem stepKeepsMemoryCanonical : Obligations.StepKeepsMemoryCanonical := by
  unfold Obligations.StepKeepsMemoryCanonical
  intro s h
  obtain ⟨t, request, next⟩ | ⟨-, next⟩ := step_cases s
  · exact ⟨t, next, State.Inv_takeRequest h request⟩
  · exact ⟨_, next, State.Inv_after (State.Inv_fetch h) _ _⟩

/-- Settles O9: the RAM of the reset state is empty and its cartridge the null one. -/
theorem resetMemoryIsCanonical : Obligations.ResetMemoryIsCanonical := by
  unfold Obligations.ResetMemoryIsCanonical
  exact (State.Inv_iff _).mpr ⟨reset_memory_wf, rfl, rfl⟩

end Sys2Proof.Machine
end

section
/-! The canonical form of Memory is canonical: below its first cell a memory reads 0 and at it not, so two memories that read alike
start with the same cell (log 14). -/

namespace Sys2Proof.Machine

theorem Memory.wfFrom_cons {lo k : Nat} {v : Byte} {m : Memory} :
    Memory.wfFrom lo ((k, v) :: m) = true ↔ lo ≤ k ∧ v ≠ 0#8 ∧ Memory.wfFrom (k + 1) m = true := by
  simp [Memory.wfFrom, and_assoc]

@[simp] theorem Memory.read_cons_self (k : Nat) (v : Byte) (m : Memory) : Memory.read ((k, v) :: m) k = v := by
  simp [Memory.read]

theorem Memory.read_cons_of_lt {k j : Nat} (h : k < j) (v : Byte) (m : Memory) :
    Memory.read ((k, v) :: m) j = Memory.read m j := by
  simp [Memory.read, Nat.ne_of_lt h]

/-- Below the bound of a canonical memory no cell is listed. -/
theorem Memory.read_of_lt {lo k : Nat} {m : Memory} (h : Memory.wfFrom lo m = true) (hk : k < lo) : Memory.read m k = 0#8 := by
  induction m generalizing lo with
  | nil => rfl
  | cons c m ih =>
    obtain ⟨j, v⟩ := c
    obtain ⟨hj, -, hm⟩ := Memory.wfFrom_cons.mp h
    have hkj : k ≠ j := by omega
    simp [Memory.read, hkj.symm, ih hm (by omega)]

/-- A canonical memory does not read as one whose first cell has a smaller number. -/
theorem Memory.read_ne_of_lt {lo k : Nat} {v : Byte} {m n : Memory} (hv : v ≠ 0#8) (hn : Memory.wfFrom lo n = true)
    (hk : k < lo) : Memory.read ((k, v) :: m) k ≠ Memory.read n k := by
  rw [Memory.read_cons_self, Memory.read_of_lt hn hk]; exact hv

theorem Memory.ext_of_wfFrom {lo : Nat} {m n : Memory} (hm : Memory.wfFrom lo m = true) (hn : Memory.wfFrom lo n = true)
    (h : ∀ k, Memory.read m k = Memory.read n k) : m = n := by
  induction m generalizing lo n with
  | nil =>
    cases n with
    | nil => rfl
    | cons d n =>
      obtain ⟨j, w⟩ := d
      obtain ⟨-, hw, -⟩ := Memory.wfFrom_cons.mp hn
      exact absurd (h j).symm (Memory.read_ne_of_lt hw (lo := j + 1) (n := []) rfl j.lt_succ_self)
  | cons c m ih =>
    obtain ⟨k, v⟩ := c
    obtain ⟨hk, hv, hm⟩ := Memory.wfFrom_cons.mp hm
    cases n with
    | nil => exact absurd (h k) (Memory.read_ne_of_lt hv (lo := k + 1) (n := []) rfl k.lt_succ_self)
    | cons d n =>
      obtain ⟨j, w⟩ := d
      obtain ⟨hj, hw, hn⟩ := Memory.wfFrom_cons.mp hn
      obtain hlt | rfl | hgt := Nat.lt_trichotomy k j
      · exact absurd (h k) (Memory.read_ne_of_lt hv (Memory.wfFrom_cons.mpr ⟨Nat.le_refl _, hw, hn⟩) hlt)
      · have hvw : v = w := by simpa using h k
        have rest (i : Nat) : Memory.read m i = Memory.read n i := by
          by_cases hi : k < i
          · rw [← Memory.read_cons_of_lt hi v m, h i, Memory.read_cons_of_lt hi]
          · rw [Memory.read_of_lt hm (by omega), Memory.read_of_lt hn (by omega)]
        rw [hvw, ih hm hn rest]
      · exact absurd (h j).symm (Memory.read_ne_of_lt hw (Memory.wfFrom_cons.mpr ⟨Nat.le_refl _, hv, hm⟩) hgt)

/-- Settles O10, by induction on the two lists of cells. -/
theorem canonicalMemoriesThatReadAlikeAreEqual : Obligations.CanonicalMemoriesThatReadAlikeAreEqual := by
  unfold Obligations.CanonicalMemoriesThatReadAlikeAreEqual
  exact fun _ _ hm hn h => Memory.ext_of_wfFrom hm hn h

end Sys2Proof.Machine
end

section
/-! The status byte and the launch state. -/

namespace Sys2Proof.Machine

/-- A byte is the sum of its bits by weight. -/
theorem byte_toNat_eq_sum_bits (b : Byte) :
    b.toNat = (b.getLsbD 0).toNat + 2 * (b.getLsbD 1).toNat + 4 * (b.getLsbD 2).toNat + 8 * (b.getLsbD 3).toNat +
      16 * (b.getLsbD 4).toNat + 32 * (b.getLsbD 5).toNat + 64 * (b.getLsbD 6).toNat + 128 * (b.getLsbD 7).toNat := by
  have bit (i : Nat) : (b.getLsbD i).toNat = b.toNat / 2 ^ i % 2 := by
    rw [← BitVec.testBit_toNat, Nat.toNat_testBit]
  have : b.toNat < 256 := b.isLt
  simp only [bit]
  omega

/-- Settles O60: the flags are the bits of P at the places of R19, from C at bit 0 to N at bit 7. -/
theorem statusByteIsItsEightFlags : Obligations.StatusByteIsItsEightFlags := by
  unfold Obligations.StatusByteIsItsEightFlags
  exact fun s => byte_toNat_eq_sum_bits s.p

/-- A requested RESET is taken, whatever else is pending (60_exceptions.md R175). -/
theorem step_of_resetReq {s : State} (h : s.resetReq = true) : step s = .next s.resetSequence :=
  step_of_request s (by simp [State.takeRequest, h])

/-- Settles O15: the power-on RESET overwrites every register that construction leaves open, and RAM is empty. -/
theorem powerOnResetGivesLaunchState : Obligations.PowerOnResetGivesLaunchState := by
  unfold Obligations.PowerOnResetGivesLaunchState
  intro params cart a x y p pc
  constructor
  · refine ⟨_, step_of_resetReq rfl, ?_⟩
    rw [State.resetSequence_eq]
    refine ⟨⟨rfl, rfl, rfl, rfl⟩, rfl, rfl, fun b hb => ?_, rfl, rfl, rfl, rfl, rfl⟩
    simp only [State.peek, route_ram hb]; rfl
  · have vector : wordOf 0#8 0#8 = 0x0000#16 := rfl
    rw [step_of_resetReq rfl, State.resetSequence_eq]
    simp [State.construct, State.requestReset, State.reset, Config.Params.default, vector]

end Sys2Proof.Machine
end

section
/-! What each shared operation and each operation leaves of the registers and the flags (10_state.md R13, R20 to R29). -/

namespace Sys2Proof.Machine

section
variable (s : State)

/-! ### The registers under an operand write, a jump, a branch and an entry -/

/-- A store at an address leaves A; the sentinel stands for A itself (43_logic_shift.md R140). -/
theorem State.writeOperand_a {ea : EA} (h : ea ≠ .implied) (v : Byte) : (s.writeOperand ea v).a = s.a := by
  cases ea with
  | implied => exact absurd rfl h
  | imm a _ => exact s.busWrite_a a v
  | mem a => exact s.busWrite_a a v

@[simp] theorem State.writeOperand_x (ea : EA) (v : Byte) : (s.writeOperand ea v).x = s.x := by
  cases ea <;> simp [State.writeOperand]
@[simp] theorem State.writeOperand_y (ea : EA) (v : Byte) : (s.writeOperand ea v).y = s.y := by
  cases ea <;> simp [State.writeOperand]
@[simp] theorem State.writeOperand_sp (ea : EA) (v : Byte) : (s.writeOperand ea v).sp = s.sp := by
  cases ea <;> simp [State.writeOperand]
@[simp] theorem State.writeOperand_p (ea : EA) (v : Byte) : (s.writeOperand ea v).p = s.p := by
  cases ea <;> simp [State.writeOperand]

/-- A jump writes PC alone. -/
theorem State.jumpTo_eq (ea : EA) : s.jumpTo ea = s.setPc (s.jumpTo ea).pc := by
  cases ea <;> rfl

/-- A branch writes PC and adds cycles, taken or not. -/
theorem State.branch_eq (cond : Bool) (ea : EA) :
    s.branch cond ea = (s.setPc (s.branch cond ea).pc).setTick (s.branch cond ea).tick := by
  cases cond with
  | false => rfl
  | true => cases ea <;> rfl

@[simp] theorem State.jumpTo_a (ea : EA) : (s.jumpTo ea).a = s.a := by rw [State.jumpTo_eq]; rfl
@[simp] theorem State.jumpTo_x (ea : EA) : (s.jumpTo ea).x = s.x := by rw [State.jumpTo_eq]; rfl
@[simp] theorem State.jumpTo_y (ea : EA) : (s.jumpTo ea).y = s.y := by rw [State.jumpTo_eq]; rfl
@[simp] theorem State.jumpTo_sp (ea : EA) : (s.jumpTo ea).sp = s.sp := by rw [State.jumpTo_eq]; rfl
@[simp] theorem State.jumpTo_p (ea : EA) : (s.jumpTo ea).p = s.p := by rw [State.jumpTo_eq]; rfl

@[simp] theorem State.branch_a (cond : Bool) (ea : EA) : (s.branch cond ea).a = s.a := by rw [State.branch_eq]; rfl
@[simp] theorem State.branch_x (cond : Bool) (ea : EA) : (s.branch cond ea).x = s.x := by rw [State.branch_eq]; rfl
@[simp] theorem State.branch_y (cond : Bool) (ea : EA) : (s.branch cond ea).y = s.y := by rw [State.branch_eq]; rfl
@[simp] theorem State.branch_sp (cond : Bool) (ea : EA) : (s.branch cond ea).sp = s.sp := by rw [State.branch_eq]; rfl
@[simp] theorem State.branch_p (cond : Bool) (ea : EA) : (s.branch cond ea).p = s.p := by rw [State.branch_eq]; rfl

@[simp] theorem State.compare_a (r m : Byte) : (s.compare r m).a = s.a := rfl
@[simp] theorem State.compare_x (r m : Byte) : (s.compare r m).x = s.x := rfl
@[simp] theorem State.compare_y (r m : Byte) : (s.compare r m).y = s.y := rfl
@[simp] theorem State.compare_sp (r m : Byte) : (s.compare r m).sp = s.sp := rfl

@[simp] theorem State.testBits_a (m : Byte) : (s.testBits m).a = s.a := rfl
@[simp] theorem State.testBits_x (m : Byte) : (s.testBits m).x = s.x := rfl
@[simp] theorem State.testBits_y (m : Byte) : (s.testBits m).y = s.y := rfl
@[simp] theorem State.testBits_sp (m : Byte) : (s.testBits m).sp = s.sp := rfl

@[simp] theorem State.addWithCarry_x (m : Byte) : (s.addWithCarry m).x = s.x := rfl
@[simp] theorem State.addWithCarry_y (m : Byte) : (s.addWithCarry m).y = s.y := rfl
@[simp] theorem State.addWithCarry_sp (m : Byte) : (s.addWithCarry m).sp = s.sp := rfl

/-- What BRK leaves (44_control_flow.md R157). -/
theorem State.opBrk_eq (ea : EA) :
    s.opBrk ea = (((s.pushWord s.pc).push (withFlag s.p .b true)).setFlag .i true).setPc
      (wordOf (s.cart.read 0xFFFE#16) (s.cart.read 0xFFFF#16)) :=
  s.enterVia_eq _ _ (by decide) (by decide)

/-! ### Which registers an operation writes -/

/-- The register table of 10_state.md R13 for one operation: what each register keeps when the operation is not among its writers.
A store keeps A when it has an address; the sentinel stands for A. -/
theorem Op.registers_body (op : Op) (ea : EA) :
    (op ∉ [Op.lda, .pla, .txa, .tya, .adc, .sbc, .and, .ora, .eor, .kil] → (writesOperand op = true → ea ≠ .implied) →
      (Op.body op ea s).a = s.a) ∧
    (op ∉ [Op.ldx, .tax, .tsx, .inx, .dex, .kil] → (Op.body op ea s).x = s.x) ∧
    (op ∉ [Op.ldy, .tay, .iny, .dey, .kil] → (Op.body op ea s).y = s.y) ∧
    (op ∉ [Op.txs, .pha, .php, .pla, .plp, .jsr, .rts, .brk, .rti, .kil] → (Op.body op ea s).sp = s.sp) := by
  cases op with
  | lda | ldx | ldy | and | ora | eor | bit =>
    simp [Op.body, State.opLda, State.opLdx, State.opLdy, State.opAnd, State.opOra, State.opEor, State.opBit]
  | adc | sbc | cmp | cpx | cpy => simp [Op.body, State.opAdc, State.opSbc, State.opCmp, State.opCpx, State.opCpy]
  | sta | stx | sty =>
    simp +contextual [Op.body, State.opSta, State.opStx, State.opSty, State.writeOperand_a, writesOperand]
  | inc | dec => simp +contextual [Op.body, State.opInc, State.opDec, State.writeOperand_a, writesOperand]
  | asl | lsr | rol | ror =>
    simp +contextual [Op.body, State.opAsl, State.opLsr, State.opRol, State.opRor, State.shift, State.writeOperand_a,
      writesOperand]
  | tax | tay | txa | tya | tsx | txs =>
    simp [Op.body, State.opTax, State.opTay, State.opTxa, State.opTya, State.opTsx, State.opTxs]
  | inx | iny | dex | dey => simp [Op.body, State.opInx, State.opIny, State.opDex, State.opDey]
  | clc | cld | cli | clv | sec | sed | sei | nop => exact ⟨fun _ _ => rfl, fun _ => rfl, fun _ => rfl, fun _ => rfl⟩
  | bpl | bmi | bvc | bvs | bcc | bcs | bne | beq =>
    exact ⟨fun _ _ => s.branch_a _ ea, fun _ => s.branch_x _ ea, fun _ => s.branch_y _ ea, fun _ => s.branch_sp _ ea⟩
  | jmp | jsr | rts => simp [Op.body, State.opJmp, State.opJsr, State.opRts]
  | brk | rti => simp [Op.body, State.opBrk_eq, State.opRti, State.returnFromInterrupt_eq]
  | pha | php | pla | plp => simp [Op.body, State.opPha, State.opPhp, State.opPla, State.opPlp]
  | kil => simp

/-! ### Which flags an operation writes -/

/-- The flags an operation writes (10_state.md R20 to R29). -/
def Op.writtenFlags : Op → List Flag
  | .lda | .ldx | .ldy | .tax | .tay | .txa | .tya | .tsx | .inc | .dec | .inx | .iny | .dex | .dey | .and | .ora | .eor | .pla =>
    [.z, .n]
  | .adc | .sbc => [.c, .z, .v, .n]
  | .cmp | .cpx | .cpy | .asl | .lsr | .rol | .ror => [.c, .z, .n]
  | .bit => [.z, .v, .n]
  | .clc | .sec => [.c]
  | .cld | .sed => [.d]
  | .cli | .sei | .brk => [.i]
  | .clv => [.v]
  | .plp | .rti | .kil => [.c, .z, .i, .d, .b, .u, .v, .n]
  | .sta | .stx | .sty | .txs | .bpl | .bmi | .bvc | .bvs | .bcc | .bcs | .bne | .beq | .jmp | .jsr | .rts | .pha | .php | .nop => []

variable {s} in
/-- An access before the flags are written keeps them all, since it keeps P. -/
theorem FlagsKept.of_p {u t : State} {written : List Flag} (h : FlagsKept u t written) (hp : u.p = s.p) :
    FlagsKept s t written := fun f hf => (h f hf).trans (by rw [State.flag, hp]; rfl)

theorem FlagsKept.refl (written : List Flag) : FlagsKept s s written := fun _ _ => rfl

theorem State.flagsKept_setFlag (f : Flag) (v : Bool) : FlagsKept s (s.setFlag f v) [f] := by
  intro g hg
  rw [State.flag_setFlag, if_neg (fun e => hg (by simp [e]))]

theorem State.flagsKept_setZN (v : Byte) : FlagsKept s (s.setZN v) [.z, .n] := by
  intro g hg
  cases g <;> simp at hg <;> simp [State.flag_setZN]

theorem State.flagsKept_addWithCarry (m : Byte) : FlagsKept s (s.addWithCarry m) [.c, .z, .v, .n] := by
  intro g hg
  cases g <;> simp at hg <;> simp [State.flag_addWithCarry]

theorem State.flagsKept_compare (r m : Byte) : FlagsKept s (s.compare r m) [.c, .z, .n] := by
  intro g hg
  cases g <;> simp at hg <;> simp [State.flag_compare]

theorem State.flagsKept_testBits (m : Byte) : FlagsKept s (s.testBits m) [.z, .v, .n] := by
  intro g hg
  cases g <;> simp at hg <;> simp [State.flag_testBits]

/-- Read the operand, then write it: INC, DEC and the shifts. -/
theorem State.modifyOperand_p (ea : EA) (v : Byte) : ((s.readOperand ea).2.writeOperand ea v).p = s.p := by simp

theorem State.flagsKept_shift (f : Byte → Bool → Byte × Bool) (ea : EA) : FlagsKept s (s.shift f ea) [.c, .z, .n] := by
  have carryThenZN (u : State) (c : Bool) (r : Byte) : FlagsKept u ((u.setFlag .c c).setZN r) [.c, .z, .n] := by
    intro g hg
    cases g <;> simp at hg <;> simp [State.flag_setZN]
  exact (carryThenZN _ _ _).of_p (s.modifyOperand_p ea _)

theorem State.flagsKept_opBrk (ea : EA) : FlagsKept s (s.opBrk ea) [.i] := by
  have pushes : ((s.pushWord s.pc).push (withFlag s.p .b true)).p = s.p := by simp
  rw [State.opBrk_eq]
  exact (State.flagsKept_setFlag _ .i true).of_p pushes

theorem Op.flagsKept_body (op : Op) (ea : EA) : FlagsKept s (Op.body op ea s) (Op.writtenFlags op) := by
  cases op with
  | lda | ldx | ldy | and | ora | eor => exact (State.flagsKept_setZN _ _).of_p (s.readOperand_p ea)
  | adc | sbc => exact (State.flagsKept_addWithCarry _ _).of_p (s.readOperand_p ea)
  | cmp | cpx | cpy => exact (State.flagsKept_compare _ _ _).of_p (s.readOperand_p ea)
  | bit => exact (State.flagsKept_testBits _ _).of_p (s.readOperand_p ea)
  | sta | stx | sty => exact (FlagsKept.refl _ _).of_p (s.writeOperand_p ea _)
  | inc | dec => exact (State.flagsKept_setZN _ _).of_p (s.modifyOperand_p ea _)
  | asl | lsr | rol | ror => exact s.flagsKept_shift _ ea
  | tax | tay | txa | tya | tsx | inx | iny | dex | dey => exact (State.flagsKept_setZN _ _).of_p rfl
  | txs | nop => exact FlagsKept.refl s _
  | clc | cld | cli | clv | sec | sed | sei => exact s.flagsKept_setFlag _ _
  | bpl | bmi | bvc | bvs | bcc | bcs | bne | beq => exact (FlagsKept.refl _ _).of_p (s.branch_p _ ea)
  | jmp => exact (FlagsKept.refl _ _).of_p (s.jumpTo_p ea)
  | jsr => exact (FlagsKept.refl _ _).of_p (((s.pushWord _).jumpTo_p ea).trans (s.pushWord_p _))
  | rts => exact (FlagsKept.refl _ _).of_p s.pullWord_p
  | brk => exact s.flagsKept_opBrk ea
  | pha | php => exact (FlagsKept.refl _ _).of_p (s.push_p _)
  | pla => exact (State.flagsKept_setZN _ _).of_p s.pull_p
  | plp | rti | kil =>
    intro f hf
    cases f <;> simp [Op.writtenFlags] at hf

/-- The writers of each flag as its rule lists them (10_state.md R20 to R27, R29). -/
def Flag.writers : Flag → List Op
  | .c => [.adc, .sbc, .cmp, .cpx, .cpy, .asl, .lsr, .rol, .ror, .clc, .sec, .plp, .rti, .kil]
  | .z | .n => [.lda, .ldx, .ldy, .tax, .tay, .txa, .tya, .tsx, .adc, .sbc, .cmp, .cpx, .cpy, .inc, .dec, .inx, .iny, .dex,
      .dey, .and, .ora, .eor, .bit, .asl, .lsr, .rol, .ror, .pla, .plp, .rti, .kil]
  | .i => [.sei, .cli, .plp, .rti, .brk, .kil]
  | .d => [.sed, .cld, .plp, .rti, .kil]
  | .b | .u => [.plp, .rti, .kil]
  | .v => [.adc, .sbc, .bit, .clv, .plp, .rti, .kil]

/-- What an operation writes, it is listed as a writer of. -/
theorem Op.not_mem_writtenFlags {op : Op} {f : Flag} (h : op ∉ Flag.writers f) : f ∉ Op.writtenFlags op := by
  revert h
  cases op <;> cases f <;> decide

/-! ### Instructions -/

theorem State.flagsKept_after (e : Entry) (w : Addr) : FlagsKept s (s.after e w) (Op.writtenFlags e.op) :=
  (Op.flagsKept_body ((s.resolve e.mode w).state.setPc (s.pc + BitVec.ofNat 16 e.mode.length)) e.op _).of_p (s.resolve_p e.mode w)

/-- The resolver gives the sentinel in the implied and the accumulator mode alone (40_engine.md R93). -/
theorem State.resolve_ea_eq_implied {m : Mode} {w : Addr} (h : (s.resolve m w).ea = .implied) : m = .imp ∨ m = .acc := by
  cases m <;> simp_all [State.resolve]

end

/-- The only row of the opcode table that writes an operand without an address is a shift of the accumulator (30_encoding.md
R77). -/
theorem table_writesOperand : ∀ opcode : Byte, writesOperand (table opcode).op = true →
    (table opcode).mode = .imp ∨ (table opcode).mode = .acc →
    (table opcode).op ∈ [Op.asl, .lsr, .rol, .ror] ∧ (table opcode).mode = .acc := by
  decide +kernel

/-- Settles O23: an operation keeps the registers it is no listed writer of, and a store keeps A since its mode gives an
address. -/
theorem registersHaveOnlyTheListedWriters : Obligations.RegistersHaveOnlyTheListedWriters := by
  unfold Obligations.RegistersHaveOnlyTheListedWriters
  intro i s
  let u := (s.resolve i.entry.mode i.operand).state.setPc (s.pc + BitVec.ofNat 16 i.entry.mode.length)
  obtain ⟨a, x, y, sp⟩ := Op.registers_body u i.entry.op (s.resolve i.entry.mode i.operand).ea
  refine ⟨_, exec_eq_after i s, fun hop hacc => ?_, fun hop => ?_, fun hop => ?_, fun hop => ?_⟩
  · have addressed : writesOperand i.entry.op = true → (s.resolve i.entry.mode i.operand).ea ≠ .implied := fun hw he =>
      hacc (table_writesOperand i.opcode hw (s.resolve_ea_eq_implied he))
    exact (a hop addressed).trans (s.resolve_a _ _)
  · exact (x hop).trans (s.resolve_x _ _)
  · exact (y hop).trans (s.resolve_y _ _)
  · exact (sp hop).trans (s.resolve_sp _ _)

/-- Settles O24: the lists of R20 to R27 hold the operations that write each flag. -/
theorem flagsHaveOnlyTheListedWriters : Obligations.FlagsHaveOnlyTheListedWriters := by
  unfold Obligations.FlagsHaveOnlyTheListedWriters
  intro i s
  have kept (f : Flag) (h : i.entry.op ∉ Flag.writers f) : (s.after i.entry i.operand).flag f = s.flag f :=
    s.flagsKept_after i.entry i.operand f (Op.not_mem_writtenFlags h)
  exact ⟨_, exec_eq_after i s, kept .c, fun h => ⟨kept .z h, kept .n h⟩, kept .i, kept .d, fun h => ⟨kept .b h, kept .u h⟩,
    kept .v⟩

end Sys2Proof.Machine
end

section
/-! What a change of P and of the cycle counter can influence (10_state.md R23 to R25, R31; 70_reset_and_hazards.md R204). A state
is varied by one change of P and one of `tick`; every operation leaves the varied state varied in the same way, but that what it
adds to `tick` may differ where `tick` does. -/

namespace Sys2Proof.Machine

/-- The state with P changed by `φ` and `tick` by `τ`. -/
def State.vary (s : State) (φ : Byte → Byte) (τ : Nat → Nat) : State := (s.setP (φ s.p)).setTick (τ s.tick)

theorem State.vary_id_const (s : State) (n : Nat) : s.vary id (fun _ => n) = s.setTick n := rfl

theorem State.vary_withFlag_id (s : State) (f : Flag) (v : Bool) : s.vary (withFlag · f v) id = s.setFlag f v := rfl

/-- A change of P that neither looks at nor shows in a flag but D, B and U. -/
structure OnlyDBU (φ : Byte → Byte) : Prop where
  test (p : Byte) {g : Flag} (hg : g ∉ [Flag.d, .b, .u]) : testFlag (φ p) g = testFlag p g
  write (p : Byte) {g : Flag} (hg : g ∉ [Flag.d, .b, .u]) (v : Bool) : φ (withFlag p g v) = withFlag (φ p) g v

theorem OnlyDBU.id : OnlyDBU id := ⟨fun _ _ _ => rfl, fun _ _ _ _ => rfl⟩

/-- Two different flags are written in either order. -/
theorem withFlag_comm (p : Byte) {f g : Flag} (h : f ≠ g) (v w : Bool) :
    withFlag (withFlag p f v) g w = withFlag (withFlag p g w) f v :=
  status_ext fun k => by
    simp only [testFlag_withFlag]
    by_cases hf : f = k
    · subst hf; rw [if_neg h.symm, if_pos rfl, if_pos rfl]
    · rw [if_neg hf, if_neg hf]

theorem OnlyDBU.withFlag {f : Flag} (hf : f ∈ [Flag.d, .b, .u]) (v : Bool) : OnlyDBU (withFlag · f v) where
  test p g hg := by
    have hfg : f ≠ g := by rintro rfl; exact hg hf
    rw [testFlag_withFlag, if_neg hfg]
  write p g hg w := by
    have hgf : g ≠ f := by rintro rfl; exact hg hf
    exact withFlag_comm p hgf w v

section
variable (s : State) (φ : Byte → Byte) (τ : Nat → Nat)

/-! ### Fields and updates -/

@[simp] theorem State.vary_a : (s.vary φ τ).a = s.a := rfl
@[simp] theorem State.vary_x : (s.vary φ τ).x = s.x := rfl
@[simp] theorem State.vary_y : (s.vary φ τ).y = s.y := rfl
@[simp] theorem State.vary_sp : (s.vary φ τ).sp = s.sp := rfl
@[simp] theorem State.vary_p : (s.vary φ τ).p = φ s.p := rfl
@[simp] theorem State.vary_pc : (s.vary φ τ).pc = s.pc := rfl
@[simp] theorem State.vary_ram : (s.vary φ τ).ram = s.ram := rfl
@[simp] theorem State.vary_tick : (s.vary φ τ).tick = τ s.tick := rfl
@[simp] theorem State.vary_cart : (s.vary φ τ).cart = s.cart := rfl
@[simp] theorem State.vary_ppu : (s.vary φ τ).ppu = s.ppu := rfl
@[simp] theorem State.vary_params : (s.vary φ τ).params = s.params := rfl

@[simp] theorem State.setA_vary (v : Byte) : (s.vary φ τ).setA v = (s.setA v).vary φ τ := rfl
@[simp] theorem State.setX_vary (v : Byte) : (s.vary φ τ).setX v = (s.setX v).vary φ τ := rfl
@[simp] theorem State.setY_vary (v : Byte) : (s.vary φ τ).setY v = (s.setY v).vary φ τ := rfl
@[simp] theorem State.setSp_vary (v : Byte) : (s.vary φ τ).setSp v = (s.setSp v).vary φ τ := rfl
@[simp] theorem State.setPc_vary (v : Addr) : (s.vary φ τ).setPc v = (s.setPc v).vary φ τ := rfl
@[simp] theorem State.setPpu_vary (u : Ppu) : (s.vary φ τ).setPpu u = (s.setPpu u).vary φ τ := rfl

/-! ### Reads and the stack -/

@[simp] theorem State.peek_vary (a : Addr) : (s.vary φ τ).peek a = s.peek a := rfl

@[simp] theorem State.afterRead_vary (a : Addr) : (s.vary φ τ).afterRead a = (s.afterRead a).vary φ τ := by
  simp only [State.afterRead]; split <;> rfl

@[simp] theorem State.readWord_vary (a : Addr) :
    (s.vary φ τ).readWord a = ((s.readWord a).1, (s.readWord a).2.vary φ τ) := by
  simp [State.readWord_eq]

@[simp] theorem State.readBytes_vary (a : Addr) (n : Nat) :
    (s.vary φ τ).readBytes a n = ((s.readBytes a n).1, (s.readBytes a n).2.vary φ τ) := by
  induction n generalizing s a with
  | zero => rfl
  | succ n ih => simp [State.readBytes, State.busRead, ih]

@[simp] theorem State.readOperand_vary (ea : EA) :
    (s.vary φ τ).readOperand ea = ((s.readOperand ea).1, (s.readOperand ea).2.vary φ τ) := by
  cases ea with
  | implied => rfl
  | imm a v => rfl
  | mem a => exact Prod.ext rfl (s.afterRead_vary φ τ a)

theorem State.readIndirect_vary (w : Addr) :
    (s.vary φ τ).readIndirect w = ((s.readIndirect w).1, (s.readIndirect w).2.vary φ τ) := by
  simp only [State.readIndirect, State.busRead, State.peek_vary, State.afterRead_vary]; rfl

@[simp] theorem State.resolve_vary (m : Mode) (w : Addr) :
    (s.vary φ τ).resolve m w = { s.resolve m w with state := (s.resolve m w).state.vary φ τ } := by
  cases m with
  | ind => simp [State.resolve, State.readIndirect_vary]
  | indX | indY => simp only [State.resolve, State.readPointer_eq]; rfl
  | _ => rfl

theorem State.fetchOperand_vary (e : Entry) :
    (s.vary φ τ).fetchOperand e = ((s.fetchOperand e).1, (s.fetchOperand e).2.vary φ τ) := by
  simp only [State.fetchOperand]
  split
  · rfl
  · exact Prod.ext rfl (s.afterRead_vary φ τ _)

theorem State.fetch_vary : (s.vary φ τ).fetch = (s.fetch.1, s.fetch.2.vary φ τ) := by
  simp only [State.fetch, State.busRead, State.peek_vary, State.afterRead_vary, State.vary_pc, State.fetchOperand_vary,
    State.readWord_vary]
  split <;> rfl

@[simp] theorem State.push_vary (v : Byte) : (s.vary φ τ).push v = (s.push v).vary φ τ := by
  simp only [State.push_eq]; rfl

@[simp] theorem State.pushWord_vary (w : Addr) : (s.vary φ τ).pushWord w = (s.pushWord w).vary φ τ := by
  simp only [State.pushWord_eq]; rfl

@[simp] theorem State.pull_vary : (s.vary φ τ).pull = (s.pull.1, s.pull.2.vary φ τ) := by
  simp only [State.pull_eq]; rfl

@[simp] theorem State.pullWord_vary : (s.vary φ τ).pullWord = (s.pullWord.1, s.pullWord.2.vary φ τ) := by
  simp only [State.pullWord_eq]; rfl

@[simp] theorem State.jumpTo_vary (ea : EA) : (s.vary φ τ).jumpTo ea = (s.jumpTo ea).vary φ τ := by
  cases ea <;> rfl

end

/-! ### Flags -/

section
variable {φ : Byte → Byte} (hφ : OnlyDBU φ) (s : State) (τ : Nat → Nat)
include hφ

theorem OnlyDBU.flag {g : Flag} (hg : g ∉ [Flag.d, .b, .u]) : (s.vary φ τ).flag g = s.flag g := hφ.test s.p hg

theorem OnlyDBU.setFlag {g : Flag} (hg : g ∉ [Flag.d, .b, .u]) (v : Bool) :
    (s.vary φ τ).setFlag g v = (s.setFlag g v).vary φ τ :=
  congrArg (fun p => (s.setP p).setTick (τ s.tick)) (hφ.write s.p hg v).symm

theorem OnlyDBU.setZN (v : Byte) : (s.vary φ τ).setZN v = (s.setZN v).vary φ τ := by
  simp [State.setZN, hφ.setFlag]

theorem OnlyDBU.addWithCarry (m : Byte) : (s.vary φ τ).addWithCarry m = (s.addWithCarry m).vary φ τ := by
  simp [State.addWithCarry, hφ.flag, hφ.setFlag, hφ.setZN]

theorem OnlyDBU.compare (r m : Byte) : (s.vary φ τ).compare r m = (s.compare r m).vary φ τ := by
  simp [State.compare, hφ.setFlag]

theorem OnlyDBU.testBits (m : Byte) : (s.vary φ τ).testBits m = (s.testBits m).vary φ τ := by
  simp [State.testBits, hφ.setFlag]

end

/-! ### Where cycles are added -/

/-- `t` is `u` with P changed by `φ` and `tick` in some way, which is no change where `τ` is none. -/
def VariedBy (φ : Byte → Byte) (τ : Nat → Nat) (u t : State) : Prop := ∃ τ', (τ = id → τ' = id) ∧ t = u.vary φ τ'

section
variable {φ : Byte → Byte} {τ : Nat → Nat} {u t : State}

theorem VariedBy.of_eq (h : t = u.vary φ τ) : VariedBy φ τ u t := ⟨τ, id, h⟩

/-- Two numbers of cycles may be added, if they are equal where `tick` is. -/
theorem VariedBy.addTicks (h : VariedBy φ τ u t) {k k' : Nat} (hk : τ = id → k' = k) :
    VariedBy φ τ (u.addTicks k) (t.addTicks k') := by
  obtain ⟨τ', hτ, rfl⟩ := h
  by_cases e : τ = id
  · obtain rfl := hτ e
    obtain rfl := hk e
    exact ⟨id, fun _ => rfl, rfl⟩
  · exact ⟨fun _ => τ' u.tick + k', fun e' => absurd e' e, rfl⟩

theorem VariedBy.setFlag (hφ : OnlyDBU φ) (h : VariedBy φ τ u t) {g : Flag} (hg : g ∉ [Flag.d, .b, .u]) (v : Bool) :
    VariedBy φ τ (u.setFlag g v) (t.setFlag g v) := by
  obtain ⟨τ', hτ, rfl⟩ := h
  exact ⟨τ', hτ, hφ.setFlag u τ' hg v⟩

theorem VariedBy.setZN (hφ : OnlyDBU φ) (h : VariedBy φ τ u t) (v : Byte) : VariedBy φ τ (u.setZN v) (t.setZN v) := by
  obtain ⟨τ', hτ, rfl⟩ := h
  exact ⟨τ', hτ, hφ.setZN u τ' v⟩

end

section
variable (s : State) (φ : Byte → Byte) (τ : Nat → Nat)

/-- The cycles of the DMA depend on `tick` (20_memory.md R49), those of no other write. -/
theorem State.variedBy_busWrite (a : Addr) (v : Byte) : VariedBy φ τ (s.busWrite a v) ((s.vary φ τ).busWrite a v) := by
  obtain ⟨-, hr⟩ | ⟨-, -, hr⟩ | ⟨-, hr⟩ | ⟨-, -, -, hr⟩ | ⟨-, hr⟩ := route_cases a <;> simp only [State.busWrite, hr]
  case inr.inr.inl =>
    simp only [State.oamDma, State.readBytes_vary, State.setPpu_vary, State.vary_ppu, State.vary_tick]
    exact (VariedBy.of_eq rfl).addTicks fun e => by rw [e]; rfl
  all_goals exact .of_eq rfl

theorem State.variedBy_writeOperand (ea : EA) (v : Byte) :
    VariedBy φ τ (s.writeOperand ea v) ((s.vary φ τ).writeOperand ea v) := by
  cases ea with
  | implied => exact .of_eq rfl
  | imm a _ => exact s.variedBy_busWrite φ τ a v
  | mem a => exact s.variedBy_busWrite φ τ a v

theorem State.variedBy_branch (cond : Bool) (ea : EA) : VariedBy φ τ (s.branch cond ea) ((s.vary φ τ).branch cond ea) := by
  cases cond with
  | false => exact .of_eq rfl
  | true =>
    simp only [State.branch, if_true, State.jumpTo_vary, State.vary_pc]
    exact (VariedBy.of_eq rfl).addTicks fun _ => rfl

variable {φ}

/-- A shift reads the carry, which `φ` does not touch (43_logic_shift.md R140). -/
theorem State.variedBy_shift (hφ : OnlyDBU φ) (f : Byte → Bool → Byte × Bool) (ea : EA) :
    VariedBy φ τ (s.shift f ea) ((s.vary φ τ).shift f ea) := by
  have flag : ((s.readOperand ea).2.vary φ τ).flag .c = (s.readOperand ea).2.flag .c := hφ.flag _ τ (by decide)
  simp only [State.shift, State.readOperand_vary, flag]
  exact ((State.variedBy_writeOperand _ φ τ ea _).setFlag hφ (by decide) _).setZN hφ _

/-! ### Operations, instructions and the boundary -/

/-- An operation that neither pushes nor loads P nor writes D carries a change of P through; where P is not changed, every operation
does. -/
theorem Op.variedBy_body (hφ : OnlyDBU φ) (op : Op) (ea : EA)
    (h : op ∉ [Op.php, .brk, .plp, .rti, .kil, .cld, .sed] ∨ φ = id) :
    VariedBy φ τ (Op.body op ea s) (Op.body op ea (s.vary φ τ)) := by
  cases op with
  | lda | ldx | ldy | and | ora | eor =>
    exact .of_eq (by simp [Op.body, State.opLda, State.opLdx, State.opLdy, State.opAnd, State.opOra, State.opEor, hφ.setZN])
  | adc | sbc => exact .of_eq (by simp [Op.body, State.opAdc, State.opSbc, hφ.addWithCarry])
  | cmp | cpx | cpy => exact .of_eq (by simp [Op.body, State.opCmp, State.opCpx, State.opCpy, hφ.compare])
  | bit => exact .of_eq (by simp [Op.body, State.opBit, hφ.testBits])
  | sta | stx | sty => exact s.variedBy_writeOperand φ τ ea _
  | inc | dec =>
    simp only [Op.body, State.opInc, State.opDec, State.readOperand_vary]
    exact (State.variedBy_writeOperand _ φ τ ea _).setZN hφ _
  | asl | lsr | rol | ror =>
    simp only [Op.body, State.opAsl, State.opLsr, State.opRol, State.opRor]
    exact s.variedBy_shift τ hφ _ ea
  | tax | tay | txa | tya | tsx =>
    exact .of_eq (by simp [Op.body, State.opTax, State.opTay, State.opTxa, State.opTya, State.opTsx, hφ.setZN])
  | inx | iny | dex | dey =>
    exact .of_eq (by simp [Op.body, State.opInx, State.opIny, State.opDex, State.opDey, hφ.setZN])
  | txs | nop => exact .of_eq rfl
  | clc | cli | clv | sec | sei => exact .of_eq (hφ.setFlag s τ (by decide) _)
  | bpl | bmi | bvc | bvs | bcc | bcs | bne | beq =>
    simp only [Op.body, State.opBpl, State.opBmi, State.opBvc, State.opBvs, State.opBcc, State.opBcs, State.opBne,
      State.opBeq]
    rw [hφ.flag s τ (by decide)]
    exact s.variedBy_branch φ τ _ ea
  | jmp | jsr | rts => exact .of_eq (by simp [Op.body, State.opJmp, State.opJsr, State.opRts])
  | pha | pla => exact .of_eq (by simp [Op.body, State.opPha, State.opPla, hφ.setZN])
  | php | brk =>
    obtain rfl := h.resolve_left (by decide)
    exact .of_eq (by simp [Op.body, State.opPhp, State.opBrk_eq, hφ.setFlag])
  | plp | cld | sed =>
    obtain rfl := h.resolve_left (by decide)
    exact .of_eq (by simp [Op.body, State.opPlp, State.opCld, State.opSed]; rfl)
  | rti | kil =>
    obtain rfl := h.resolve_left (by decide)
    exact .of_eq (by simp only [Op.body, State.opRti, State.opKil, State.returnFromInterrupt_eq, State.resetSequence_eq]; rfl)

theorem State.variedBy_after (hφ : OnlyDBU φ) (e : Entry) (w : Addr)
    (h : e.op ∉ [Op.php, .brk, .plp, .rti, .kil, .cld, .sed] ∨ φ = id) :
    VariedBy φ τ (s.after e w) ((s.vary φ τ).after e w) := by
  simp only [State.after, State.resolve_vary, State.vary_pc, State.setPc_vary]
  exact (Op.variedBy_body _ τ hφ e.op _ h).addTicks fun _ => rfl

theorem State.variedBy_enterInterrupt {vector : Addr} (h : 0x4018 ≤ vector.toNat) (h' : vector.toNat < 0xFFFF) :
    VariedBy id τ (s.enterInterrupt vector) ((s.vary id τ).enterInterrupt vector) := by
  simp only [State.enterInterrupt_eq _ h h']
  refine VariedBy.addTicks (.of_eq ?_) fun _ => rfl
  simp [OnlyDBU.id.setFlag]

theorem State.resetSequence_vary : (s.vary id τ).resetSequence = s.resetSequence.vary id τ := by
  simp only [State.resetSequence_eq]; rfl

/-- Which request is taken does not depend on `tick` (60_exceptions.md R175). -/
theorem State.variedBy_takeRequest : Option.Rel (VariedBy id τ) s.takeRequest (s.vary id τ).takeRequest := by
  have nmi := (s.setNmiPending false).variedBy_enterInterrupt τ (vector := 0xFFFA#16) (by decide) (by decide)
  have irq := s.variedBy_enterInterrupt τ (vector := 0xFFFE#16) (by decide) (by decide)
  have varied : (s.vary id τ).takeRequest =
      if s.resetReq then some (s.resetSequence.vary id τ)
      else if s.nmiPending then some (((s.setNmiPending false).vary id τ).enterInterrupt 0xFFFA#16)
      else if s.irqLine && !s.flag .i then some ((s.vary id τ).enterInterrupt 0xFFFE#16)
      else none := by
    rw [← State.resetSequence_vary]; rfl
  rw [varied, State.takeRequest]
  split
  · exact .some (.of_eq rfl)
  · split
    · exact .some nmi
    · split
      · exact .some irq
      · exact .none

/-- A whole boundary from a state that differs in `tick` alone. -/
theorem step_vary : ∃ t t', step s = .next t ∧ step (s.vary id τ) = .next t' ∧ VariedBy id τ t t' := by
  have requests := s.variedBy_takeRequest τ
  obtain ⟨t, request, next⟩ | ⟨idle, next⟩ := step_cases s
  · rw [request] at requests
    generalize taken : (s.vary id τ).takeRequest = o at requests
    obtain ⟨varied⟩ := requests
    exact ⟨t, _, next, step_of_request _ taken, varied⟩
  · rw [idle] at requests
    generalize idle' : (s.vary id τ).takeRequest = o at requests
    obtain ⟨⟩ := requests
    refine ⟨_, _, next, (step_of_no_request _ idle').trans (exec_eq_after _ _), ?_⟩
    rw [State.fetch_vary]
    exact State.variedBy_after _ τ OnlyDBU.id _ _ (.inr rfl)

end

/-- Settles O12: a change of `tick` alone shows after a boundary in `tick` alone. -/
theorem cycleCounterInfluencesNothing : Obligations.CycleCounterInfluencesNothing := by
  unfold Obligations.CycleCounterInfluencesNothing
  intro s n
  obtain ⟨t, _, next, next', τ', -, rfl⟩ := step_vary s fun _ => n
  exact ⟨t, τ' t.tick, next, next'⟩

/-- Settles O25: one flag of D, B and U changed is a change that only they show, and no cycle count differs. -/
theorem decimalBreakAndUnusedGateNothing : Obligations.DecimalBreakAndUnusedGateNothing := by
  unfold Obligations.DecimalBreakAndUnusedGateNothing
  intro i s f v hf hop
  obtain ⟨τ, hτ, h⟩ := s.variedBy_after id (OnlyDBU.withFlag hf v) i.entry i.operand (.inl hop)
  obtain rfl := hτ rfl
  exact ⟨_, exec_eq_after i s, (exec_eq_after i _).trans (congrArg _ h)⟩

end Sys2Proof.Machine
end

section
/-! What a byte access does, region by region (20_memory.md R41 to R50). -/

namespace Sys2Proof.Machine

/-! ### Addresses -/

theorem inWindow_iff {a : Addr} : inWindow a = true ↔ 0x2000 ≤ a.toNat ∧ a.toNat < 0x4000 := by
  simp [inWindow]

theorem not_inWindow_iff {a : Addr} : inWindow a = false ↔ a.toNat < 0x2000 ∨ 0x4000 ≤ a.toNat := by
  rw [← Bool.not_eq_true, inWindow_iff]; omega

theorem not_inWindow_of_lt {a : Addr} (h : a.toNat < 0x2000) : inWindow a = false := not_inWindow_iff.mpr (.inl h)

theorem not_inWindow_of_le {a : Addr} (h : 0x4000 ≤ a.toNat) : inWindow a = false := not_inWindow_iff.mpr (.inr h)

theorem stackAddr_not_inWindow (sp : Byte) : inWindow (stackAddr sp) = false := by
  have : sp.toNat < 256 := sp.isLt
  exact not_inWindow_of_lt (by rw [stackAddr_toNat]; omega)

/-- `a & 7` as a register number (20_memory.md R46). -/
theorem windowRegister_eq (a : Addr) : (a &&& 0x0007#16).setWidth 3 = BitVec.ofNat 3 a.toNat := by
  apply BitVec.eq_of_toNat_eq
  have low : (a &&& 0x0007#16).toNat = a.toNat % 8 := by
    rw [BitVec.toNat_and]; exact Nat.and_two_pow_sub_one_eq_mod a.toNat 3
  simp only [BitVec.toNat_setWidth, BitVec.toNat_ofNat, low]
  omega

/-- Two RAM addresses share their cell exactly when they agree modulo $0800 (20_memory.md R45). -/
theorem sameRamCell_eq_decide {a b : Addr} (ha : a.toNat < 0x2000) (hb : b.toNat < 0x2000) :
    sameRamCell a b = decide (a.toNat % 0x800 = b.toNat % 0x800) := by
  rw [Bool.eq_iff_iff, sameRamCell_iff]; simp [ha, hb]

/-- Two stack addresses are one cell only at one SP. -/
theorem sameRamCell_stackAddr (p q : Byte) : sameRamCell (stackAddr p) (stackAddr q) = decide (p = q) := by
  have hp : p.toNat < 256 := p.isLt
  have hq : q.toNat < 256 := q.isLt
  rw [sameRamCell_eq_decide (by rw [stackAddr_toNat]; omega) (by rw [stackAddr_toNat]; omega)]
  simp only [stackAddr_toNat, ← BitVec.toNat_inj, decide_eq_decide]
  omega

section
variable (s : State) {a : Addr}

/-! ### Reads -/

theorem State.peek_at_ram (h : a.toNat < 0x2000) : s.peek a = Memory.read s.ram (a.toNat % 0x800) := by
  simp only [State.peek, route_ram h]

theorem State.peek_at_window (h : 0x2000 ≤ a.toNat) (h' : a.toNat < 0x4000) :
    s.peek a = s.ppu.answer (BitVec.ofNat 3 a.toNat) := by
  simp only [State.peek, route_ppu h h', windowRegister_eq]

theorem State.peek_at_stub (h : 0x4000 ≤ a.toNat) (h' : a.toNat < 0x4018) : s.peek a = 0#8 := by
  by_cases dma : a = 0x4014#16
  · simp only [State.peek, dma, route_dma]
  · simp only [State.peek, route_stub h h' dma]

theorem State.peek_at_cart (h : 0x4018 ≤ a.toNat) : s.peek a = s.cart.read a := by
  simp only [State.peek, route_cart h]

theorem State.afterRead_at_window (h : 0x2000 ≤ a.toNat) (h' : a.toNat < 0x4000) :
    s.afterRead a = s.setPpu (s.ppu.afterRead (BitVec.ofNat 3 a.toNat)) := by
  simp only [State.afterRead, route_ppu h h', windowRegister_eq]

/-- A read outside the window has no effect (20_memory.md R54). -/
theorem State.busRead_of_not_inWindow (h : inWindow a = false) : s.busRead a = (s.peek a, s) := by
  simp only [State.busRead, s.afterRead_of_not_inWindow h]

/-- Below cartridge space a read depends on RAM and the picture generator alone. -/
theorem State.peek_congr_of_lt {t : State} (hram : t.ram = s.ram) (hppu : t.ppu = s.ppu) (h : a.toNat < 0x4018) :
    t.peek a = s.peek a := by
  obtain ⟨-, hr⟩ | ⟨-, -, hr⟩ | ⟨-, hr⟩ | ⟨-, -, -, hr⟩ | ⟨h', -⟩ := route_cases a
  case inr.inr.inr.inr => omega
  all_goals simp only [State.peek, hr, hram, hppu]

/-! ### Writes -/

variable (v : Byte)

theorem State.busWrite_at_ram (h : a.toNat < 0x2000) :
    s.busWrite a v = s.setRam (Memory.write s.ram (a.toNat % 0x800) v) := by
  simp only [State.busWrite, route_ram h]

theorem State.busWrite_at_window (h : 0x2000 ≤ a.toNat) (h' : a.toNat < 0x4000) :
    s.busWrite a v = s.setPpu (s.ppu.write (BitVec.ofNat 3 a.toNat) v) := by
  simp only [State.busWrite, route_ppu h h', windowRegister_eq]

theorem State.busWrite_at_dma : s.busWrite 0x4014#16 v = s.oamDma v := rfl

theorem State.busWrite_at_stub (h : 0x4000 ≤ a.toNat) (h' : a.toNat < 0x4018) (hne : a ≠ 0x4014#16) : s.busWrite a v = s := by
  simp only [State.busWrite, route_stub h h' hne]

theorem State.busWrite_at_cart (h : 0x4018 ≤ a.toNat) : s.busWrite a v = s.setCart (s.cart.write a v) := by
  simp only [State.busWrite, route_cart h]

@[simp] theorem State.oamDma_ram : (s.oamDma v).ram = s.ram := by rw [State.oamDma_eq]; simp
@[simp] theorem State.oamDma_cart : (s.oamDma v).cart = s.cart := by rw [State.oamDma_eq]; simp

/-! ### Reads after writes -/

/-- A byte written to RAM is read back at every address of its cell and at no other. -/
theorem State.peek_busWrite_at_ram {b : Addr} (ha : a.toNat < 0x2000) (hb : inWindow b = false) :
    (s.busWrite a v).peek b = if sameRamCell a b then v else s.peek b := by
  rw [State.busWrite_at_ram s v ha]
  obtain hb | hb := not_inWindow_iff.mp hb
  · simp only [State.peek_at_ram _ hb, State.setRam_ram, Memory.read_write, sameRamCell_eq_decide ha hb, decide_eq_true_eq,
      eq_comm (a := b.toNat % 0x800)]
  · have other : ¬ sameRamCell a b = true := by rw [sameRamCell_iff]; omega
    rw [if_neg other]
    obtain hb' | hb' := Nat.lt_or_ge b.toNat 0x4018
    · rw [State.peek_at_stub _ hb hb', State.peek_at_stub _ hb hb']
    · rw [State.peek_at_cart _ hb', State.peek_at_cart _ hb', State.setRam_cart]

/-- A plain board keeps what is written to its RAM and nothing else (92_eei_decisions.md D29; log 2). -/
theorem Cart.read_write_board (rom ram : Memory) (a b : Addr) (v : Byte) :
    ((Cart.board rom ram).write a v).read b =
      if a = b ∧ 0x6000 ≤ a.toNat ∧ a.toNat < 0x8000 then v else (Cart.board rom ram).read b := by
  by_cases inRam : 0x6000 ≤ a.toNat ∧ a.toNat < 0x8000
  · by_cases same : a = b
    · subst same
      have notRom : ¬ 0x8000 ≤ a.toNat := by omega
      rw [if_pos ⟨rfl, inRam⟩]
      simp only [Cart.write, if_pos inRam, Cart.read, if_neg notRom, if_pos inRam.1, Memory.read_write_self]
    · have cells : b.toNat ≠ a.toNat := fun e => same (BitVec.eq_of_toNat_eq e.symm)
      rw [if_neg fun e => same e.1]
      simp only [Cart.write, if_pos inRam, Cart.read, Memory.read_write, if_neg cells]
  · rw [if_neg fun e => inRam e.2]
    simp only [Cart.write, if_neg inRam]

/-- A null cartridge and a plain board answer at no other address differently after a write. -/
theorem Cart.read_write_of_ne {c : Cart} (hc : ∀ id ws, c ≠ .external id ws) {b : Addr} (h : b ≠ a) :
    (c.write a v).read b = c.read b := by
  cases c with
  | null => rfl
  | board rom ram => rw [Cart.read_write_board, if_neg fun e => h e.1.symm]
  | external id ws => exact absurd rfl (hc id ws)

theorem State.peek_busWrite_at_cart {b : Addr} (ha : 0x4018 ≤ a.toNat) (hc : ∀ id ws, s.cart ≠ .external id ws) (hb : b ≠ a) :
    (s.busWrite a v).peek b = s.peek b := by
  rw [State.busWrite_at_cart s v ha]
  obtain hb' | hb' := Nat.lt_or_ge b.toNat 0x4018
  · exact State.peek_congr_of_lt s rfl rfl hb'
  · rw [State.peek_at_cart _ hb', State.peek_at_cart _ hb']
    exact Cart.read_write_of_ne v hc hb

end

/-- What a byte write leaves, in each of the five regions of 20_memory.md R41. -/
theorem State.stored_busWrite (s : State) (a : Addr) (v : Byte) : Stored s (s.busWrite a v) a v := by
  refine ⟨fun ram => ?_, fun window => ?_, fun dma => ?_, fun stub stub' hne => ?_, fun cart => ?_⟩
  · have peeks (b : Addr) (hb : inWindow b = false) := s.peek_busWrite_at_ram v ram hb
    rw [State.busWrite_at_ram s v ram] at peeks ⊢
    exact ⟨rfl, rfl, peeks⟩
  · obtain ⟨window, window'⟩ := inWindow_iff.mp window
    rw [windowRegister_eq, State.busWrite_at_window s v window window']
    exact ⟨rfl, rfl, rfl, fun b hb => s.peek_setPpu hb _⟩
  · rw [dma, State.busWrite_at_dma]
    exact ⟨s.oamDma_ram v, s.oamDma_cart v, rfl, fun b hb => State.peek_congr (s.oamDma_ram v) (s.oamDma_cart v) hb⟩
  · rw [State.busWrite_at_stub s v stub stub' hne]
    exact ⟨rfl, rfl, rfl, fun _ => rfl⟩
  · have others (hc : ∀ id ws, s.cart ≠ .external id ws) (b : Addr) (hb : b ≠ a) := s.peek_busWrite_at_cart v cart hc hb
    rw [State.busWrite_at_cart s v cart] at others ⊢
    exact ⟨rfl, rfl, rfl, fun b hb => State.peek_congr_of_lt s rfl rfl hb, others⟩

/-- Settles O26: a mirror is no more than another address of the same cell. -/
theorem ramMirrorsShareOneCell : Obligations.RamMirrorsShareOneCell := by
  unfold Obligations.RamMirrorsShareOneCell
  intro s a b v ha hb
  rw [s.peek_busWrite_at_ram v ha (not_inWindow_of_lt hb), sameRamCell_eq_decide ha hb]
  simp only [decide_eq_true_eq]

/-- Settles O27: the memory by `State.stored_busWrite`, the rest because a write changes RAM, the picture generator, the cartridge
and `tick` alone. -/
theorem byteWriteEffectByRegion : Obligations.ByteWriteEffectByRegion := by
  unfold Obligations.ByteWriteEffectByRegion
  intro s a v
  exact ⟨s.stored_busWrite a v, s.busWrite_tick a v, ⟨s.busWrite_a a v, s.busWrite_x a v, s.busWrite_y a v, s.busWrite_sp a v⟩,
    s.busWrite_p a v, s.busWrite_pc a v, s.inputsKept_busWrite a v⟩

/-- Settles O28: at $4018 and above both accesses are the cartridge's own. -/
theorem cartridgeContract : Obligations.CartridgeContract := by
  unfold Obligations.CartridgeContract
  intro s a v c ha
  have reads (t : State) : t.busRead a = (t.cart.read a, t) := by
    rw [State.busRead_of_not_inWindow t (not_inWindow_of_le (by omega)), State.peek_at_cart t ha]
  exact ⟨reads s, s.busWrite_at_cart v ha, Cart.read_null a, Cart.write_null a v, reads (s.swapCart c),
    fun rom ram b => Cart.read_write_board rom ram a b v⟩

/-- Settles O29: the DMA port is a stub to a read. -/
theorem stubsReadZeroAndDiscardWrites : Obligations.StubsReadZeroAndDiscardWrites := by
  unfold Obligations.StubsReadZeroAndDiscardWrites
  intro s a v h h'
  constructor
  · rw [s.busRead_of_not_inWindow (not_inWindow_of_le h), s.peek_at_stub h h']
  · exact s.busWrite_at_stub v h h'

/-- Settles O30: a write records itself; a read takes the first answer laid down, if there is one, and records it. -/
theorem pictureGeneratorWindow : Obligations.PictureGeneratorWindow := by
  unfold Obligations.PictureGeneratorWindow
  intro s a v h h'
  simp only [State.busRead, s.busWrite_at_window v h h', s.afterRead_at_window h h', s.peek_at_window h h']
  refine ⟨rfl, rfl, rfl, fun b rest laid => ?_⟩
  simp [Ppu.answer, Ppu.afterRead, laid]

/-- Settles O32: the high byte is the second of two reads, each with no effect outside the window. -/
theorem wordReadIsTwoByteReadsLowByteFirst : Obligations.WordReadIsTwoByteReadsLowByteFirst := by
  unfold Obligations.WordReadIsTwoByteReadsLowByteFirst
  intro s a
  have next : BitVec.ofNat 16 ((a.toNat + 1) % 65536) = a + 1#16 := by
    apply BitVec.eq_of_toNat_eq; simp [BitVec.toNat_add]
  simp only [next, State.busRead, State.readWord_eq, wordOf_toNat, true_and]
  refine ⟨Nat.add_comm _ _, fun low high => ?_⟩
  simp only [s.afterRead_of_not_inWindow low, s.afterRead_of_not_inWindow high, and_self]

end Sys2Proof.Machine
end

section
/-! The OAM DMA: what a burst of reads answers and records, outside the window and inside it (20_memory.md R49). -/

namespace Sys2Proof.Machine

section
variable (s : State) (a : Addr)

theorem State.readBytes_succ (n : Nat) :
    s.readBytes a (n + 1) =
      (s.peek a :: ((s.afterRead a).readBytes (a + 1#16) n).1, ((s.afterRead a).readBytes (a + 1#16) n).2) := rfl

/-- Reads outside the window answer what stands there and have no effect. -/
theorem State.readBytes_of_not_inWindow (n : Nat) (h : ∀ k, k < n → inWindow (a + BitVec.ofNat 16 k) = false) :
    (s.readBytes a n).2 = s ∧ ∀ k, k < n → (s.readBytes a n).1.getD k 0#8 = s.peek (a + BitVec.ofNat 16 k) := by
  induction n generalizing a with
  | zero => exact ⟨rfl, fun k hk => absurd hk k.not_lt_zero⟩
  | succ n ih =>
    have shift (k : Nat) : a + 1#16 + BitVec.ofNat 16 k = a + BitVec.ofNat 16 (k + 1) := by
      rw [Nat.add_comm k, BitVec.ofNat_add, BitVec.add_assoc]
    have first : inWindow a = false := by simpa using h 0 n.succ_pos
    obtain ⟨state, bytes⟩ := ih (a + 1#16) fun k hk => by rw [shift]; exact h (k + 1) (Nat.succ_lt_succ hk)
    rw [State.readBytes_succ, s.afterRead_of_not_inWindow first]
    refine ⟨state, fun k hk => ?_⟩
    cases k with
    | zero => simp
    | succ k => exact (bytes k (Nat.lt_of_succ_lt_succ hk)).trans (by rw [shift])

/-- Reads in the window are recorded one by one, newest first, and take the answers laid down in their order. -/
theorem State.readBytes_at_window (n : Nat) (h : 0x2000 ≤ a.toNat) (h' : a.toNat + n ≤ 0x4000) :
    (s.readBytes a n).2.ppu.log =
      ((s.readBytes a n).1.mapIdx fun k b => PpuEvent.read (BitVec.ofNat 3 (a.toNat + k)) b).reverse ++ s.ppu.log ∧
    ∀ k, k < s.ppu.answers.length → k < n → (s.readBytes a n).1.getD k 0#8 = s.ppu.answers.getD k 0#8 := by
  induction n generalizing s a with
  | zero => exact ⟨rfl, fun k _ hk => absurd hk k.not_lt_zero⟩
  | succ n ih =>
    have next : (a + 1#16).toNat = a.toNat + 1 := by simp [BitVec.toNat_add]; omega
    obtain ⟨log, answers⟩ := ih (s.afterRead a) (a + 1#16) (by omega) (by omega)
    have after : (s.afterRead a).ppu = s.ppu.afterRead (BitVec.ofNat 3 a.toNat) := by
      rw [s.afterRead_at_window h (by omega)]; rfl
    have answer : s.peek a = s.ppu.answer (BitVec.ofNat 3 a.toNat) := s.peek_at_window h (by omega)
    rw [after] at log answers
    rw [State.readBytes_succ]
    constructor
    · rw [log, next]
      simp [Ppu.afterRead, answer, List.mapIdx_cons, Nat.add_assoc, Nat.add_comm 1]
    · intro k laid hk
      cases k with
      | zero =>
        obtain ⟨b, rest, laid⟩ := List.exists_cons_of_length_pos laid
        simp [answer, Ppu.answer, laid]
      | succ k =>
        have tail := answers k (by simp only [Ppu.afterRead, List.length_tail]; omega) (by omega)
        simpa [Ppu.afterRead, List.getD] using tail

end

theorem page_toNat (v : Byte) : (wordOf 0#8 v).toNat = 256 * v.toNat := by
  rw [wordOf_toNat]; rfl

/-- The `k`-th address of page `v` (20_memory.md R49). -/
theorem page_add (v : Byte) (k : Nat) : wordOf 0#8 v + BitVec.ofNat 16 k = BitVec.ofNat 16 (256 * v.toNat + k) := by
  rw [BitVec.ofNat_add, ← page_toNat, BitVec.ofNat_toNat, BitVec.setWidth_eq]

/-- A page starts at register 0, so its `k`-th byte is of register `k & 7`. -/
theorem page_register (v : Byte) (k : Nat) : BitVec.ofNat 3 (256 * v.toNat + k) = BitVec.ofNat 3 k := by
  apply BitVec.eq_of_toNat_eq
  simp only [BitVec.toNat_ofNat]
  omega

theorem page_not_inWindow {v : Byte} (h : v.toNat < 0x20 ∨ 0x40 ≤ v.toNat) {k : Nat} (hk : k < 256) :
    inWindow (wordOf 0#8 v + BitVec.ofNat 16 k) = false := by
  have : v.toNat < 256 := v.isLt
  rw [page_add, not_inWindow_iff, BitVec.toNat_ofNat]
  omega

theorem State.oamDma_ppu (s : State) (v : Byte) :
    (s.oamDma v).ppu = (s.readBytes (wordOf 0#8 v) 256).2.ppu.oamBurst (s.readBytes (wordOf 0#8 v) 256).1 := by
  rw [State.oamDma_eq]; simp only [State.addTicks_ppu, State.setPpu_ppu]

/-- Settles O31: the burst holds what the 256 reads of the page answered, and the log first what those reads recorded. -/
theorem oamDmaCopiesAPage : Obligations.OamDmaCopiesAPage := by
  unfold Obligations.OamDmaCopiesAPage
  intro s v
  rw [State.busWrite_at_dma]
  refine ⟨(s.readBytes (wordOf 0#8 v) 256).1, s.readBytes_length _ _, ?_, fun outside => ?_, fun inside inside' => ?_⟩
  · have self := s.oamDma_self v
    generalize s.oamDma v = t at self ⊢
    rw [Nat.add_assoc]; exact self
  · obtain ⟨state, bytes⟩ := s.readBytes_of_not_inWindow (wordOf 0#8 v) 256 fun _ hk => page_not_inWindow outside hk
    rw [State.oamDma_ppu, state]
    exact ⟨rfl, fun k hk => (bytes k hk).trans (by rw [page_add])⟩
  · obtain ⟨log, answers⟩ := s.readBytes_at_window (wordOf 0#8 v) 256 (by rw [page_toNat]; omega) (by rw [page_toNat]; omega)
    simp only [page_toNat, page_register] at log
    rw [State.oamDma_ppu]
    exact ⟨by simp only [Ppu.oamBurst, log, List.cons_append], answers⟩

end Sys2Proof.Machine
end

section
/-! The stack: each byte pushed is read back at its SP, and the pulls answer it (20_memory.md R55 to R59). -/

namespace Sys2Proof.Machine

section
variable (s : State) (v : Byte)

theorem State.peek_push {b : Addr} (hb : inWindow b = false) :
    (s.push v).peek b = if sameRamCell (stackAddr (s.sp - 1#8)) b then v else s.peek b := by
  have inRam : (stackAddr (s.sp - 1#8)).toNat < 0x2000 := by
    have : (s.sp - 1#8).toNat < 256 := (s.sp - 1#8).isLt
    rw [stackAddr_toNat]; omega
  exact (s.setSp (s.sp - 1#8)).peek_busWrite_at_ram v inRam hb

theorem Pushed.nil : Pushed s s [] := ⟨by simp, rfl, rfl, fun k hk => absurd hk k.not_lt_zero, fun _ _ _ => rfl⟩

variable {s} in
/-- One more byte pushed stands at its own SP and moves none of the at most 255 bytes before it. -/
theorem Pushed.push {t : State} {bytes : List Byte} (h : Pushed s t bytes) (few : bytes.length < 256) :
    Pushed s (t.push v) (bytes ++ [v]) := by
  obtain ⟨sp, cart, ppu, stands, others⟩ := h
  have sp' : t.sp - 1#8 = s.sp - BitVec.ofNat 8 (bytes.length + 1) := by
    rw [sp, BitVec.ofNat_add]; bv_omega
  refine ⟨by simpa using sp', t.push_cart v ▸ cart, t.push_ppu v ▸ ppu, fun k hk => ?_, fun b hb elsewhere => ?_⟩
  · rw [State.peek_push t v (stackAddr_not_inWindow _), sp', sameRamCell_stackAddr]
    obtain hk | rfl := Nat.lt_succ_iff_lt_or_eq.mp (by simpa using hk : k < bytes.length + 1)
    · have apart : s.sp - BitVec.ofNat 8 (bytes.length + 1) ≠ s.sp - BitVec.ofNat 8 (k + 1) := by
        intro e
        have numbers := congrArg BitVec.toNat e
        simp only [BitVec.toNat_sub, BitVec.toNat_ofNat] at numbers
        omega
      simpa [apart, List.getD, List.getElem?_append_left hk] using stands k hk
    · simp
  · rw [State.peek_push t v hb, sp', elsewhere bytes.length (by simp)]
    exact others b hb fun k hk => elsewhere k (by simp; omega)

theorem State.pushed_push : Pushed s (s.push v) [v] := (Pushed.nil s).push v (by decide)

theorem State.pushed_pushWord (w : Addr) : Pushed s (s.pushWord w) [hiByte w, loByte w] :=
  (s.pushed_push (hiByte w)).push (loByte w) (by simp)

theorem State.pull_push : (s.push v).pull = (v, s.setRam (Memory.write s.ram (0x100 + (s.sp - 1#8).toNat) v)) := by
  rw [State.push_eq, State.pull_eq]
  refine Prod.ext (Memory.read_write_self _ _ _) ?_
  simp only [State.setRam_sp, State.setSp_sp, BitVec.sub_add_cancel]
  rfl

end

/-- What the two pulls of a word answer are the two bytes that stand at SP and above it. -/
theorem State.pullWord_eq_peek (t : State) : t.pullWord.1 = wordOf (t.peek (stackAddr t.sp)) (t.peek (stackAddr (t.sp + 1#8))) := by
  simp only [State.pullWord_eq, State.peek, route_stackAddr]

/-- A word pulled is the word pushed, with SP restored. -/
theorem State.pullWord_pushWord (s : State) (w : Addr) : (s.pushWord w).pullWord.1 = w ∧ (s.pushWord w).pullWord.2.sp = s.sp := by
  obtain ⟨sp, -, -, stands, -⟩ := s.pushed_pushWord w
  have hi : (s.pushWord w).peek (stackAddr (s.sp - 1#8)) = hiByte w := stands 0 (Nat.succ_pos 1)
  have lo : (s.pushWord w).peek (stackAddr (s.sp - 2#8)) = loByte w := stands 1 (Nat.lt_succ_self 1)
  have sp1 : (s.pushWord w).sp = s.sp - 2#8 := sp
  constructor
  · have above : s.sp - 2#8 + 1#8 = s.sp - 1#8 := by bv_omega
    rw [State.pullWord_eq_peek, sp1, above, lo, hi, wordOf_lo_hi]
  · rw [State.pullWord_eq, State.setSp_sp, sp1]
    bv_omega

/-- Settles O33: what was pushed stands where the pulls read, also where SP wraps. -/
theorem pullAnswersThePush : Obligations.PullAnswersThePush := by
  unfold Obligations.PullAnswersThePush
  intro s v w
  obtain ⟨word, wordSp⟩ := s.pullWord_pushWord w
  refine ⟨s.pushed_push v, by rw [State.pull_push], by rw [State.pull_push]; rfl, s.pushed_pushWord w, word, wordSp,
    fun wraps => ?_⟩
  obtain ⟨sp, -, -, stands, -⟩ := s.pushed_push v
  have top := stands 0 (by simp)
  rw [wraps] at sp top
  exact ⟨sp, top⟩

end Sys2Proof.Machine
end

section
/-! Instructions and memory: the operand access, a store under the next fetch, and runs of steps. -/

namespace Sys2Proof.Machine

/-- The resolver gives an immediate operand in the immediate mode alone, at PC0 + 1 (40_engine.md R95). -/
theorem State.resolve_ea_eq_imm {s : State} {m : Mode} {w a : Addr} {v : Byte} (h : (s.resolve m w).ea = .imm a v) :
    m = .imm ∧ a = s.pc + 1#16 ∧ v = loByte w := by
  cases m <;> simp_all [State.resolve]

/-- Settles O59: `readOperand` has these three cases, and in the last two the resolver has read nothing. -/
theorem operandIsReadOnce : Obligations.OperandIsReadOnce := by
  unfold Obligations.OperandIsReadOnce State.operandByte State.afterOperand State.resolved
  intro i s
  have quiet (h : i.entry.mode ≠ .ind) := s.resolve_state_of_ne_ind h i.operand
  refine ⟨fun a mem => ?_, fun implied => ?_, fun a v imm => ?_⟩
  · rw [mem]; exact ⟨rfl, rfl⟩
  · have mode : i.entry.mode ≠ .ind := by
      obtain e | e := s.resolve_ea_eq_implied implied <;> simp [e]
    rw [implied, quiet mode]; exact ⟨rfl, rfl⟩
  · obtain ⟨mode, address, value⟩ := State.resolve_ea_eq_imm imm
    rw [imm, quiet (by simp [mode])]; exact ⟨address, value, rfl, rfl⟩

/-- What STA abs leaves: A stored at its operand, PC three on, four cycles (41_load_store_transfer.md R113). -/
theorem exec_staAbs (s : State) (op16 : Addr) :
    exec (.staAbs op16) s = .next (((s.setPc (s.pc + 3#16)).busWrite op16 s.a).addTicks 4) := rfl

/-- Settles O58: the fetch reads at PC, where the store through any mirror has put A. -/
theorem storeIsSeenByTheNextFetch : Obligations.StoreIsSeenByTheNextFetch := by
  unfold Obligations.StoreIsSeenByTheNextFetch
  intro s op16 store next sameCell
  refine ⟨_, exec_staAbs s op16, ?_⟩
  rw [State.fetch_fst_opcode, State.addTicks_pc, State.busWrite_pc, State.setPc_pc]
  calc
    _ = ((s.setPc (s.pc + 3#16)).busWrite op16 s.a).peek (s.pc + 3#16) := rfl
    _ = s.a := by
      rw [State.peek_busWrite_at_ram _ _ store (not_inWindow_of_lt next),
        if_pos ((sameRamCell_iff _ _).mpr ⟨store, next, sameCell⟩)]

theorem step_goes (s : State) : s.Goes := by
  obtain ⟨t, -, next⟩ | ⟨-, next⟩ := step_cases s
  · exact ⟨t, next⟩
  · exact ⟨_, next⟩

/-- Settles O7: every step answers a next state, so by induction every number of steps does. -/
theorem machineNeverStops : Obligations.MachineNeverStops := by
  unfold Obligations.MachineNeverStops
  refine ⟨step_goes, fun n => ?_⟩
  induction n with
  | zero => exact fun s => ⟨s, run_zero s⟩
  | succ n ih =>
    intro s
    obtain ⟨t, next⟩ := step_goes s
    obtain ⟨u, run⟩ := ih t
    exact ⟨u, (run_succ s n next).trans run⟩

end Sys2Proof.Machine
end

section
/-! Encoding and decoding (30_encoding.md R70 to R81): an instruction is made again from its opcode and its operand, so its bytes
determine it; the decoder takes exactly the operand bytes the opcode's row asks for, or rejects for want of them. -/

namespace Sys2Proof

/-! ### The encoder -/

/-- The opcode's builder, given the operand's two bytes, makes the instruction again: in each of the three formats of
30_encoding.md R71 (no operand, a byte, a word) the bytes keep every bit of the operand. -/
theorem Instr.build_opcode_operand (i : Instr) : build i.opcode (loByte i.operand) (hiByte i.operand) = i := by
  cases i <;> simp only [Instr.opcode, Instr.operand, encode, List.headD, loByte_zext16, wordOf_lo_hi]
  -- Without an operand, or with a byte, the opcode's builder is looked up; with a word, the word of its own bytes is left.
  any_goals rfl
  all_goals exact congrArg _ (wordOf_lo_hi _)

/-- The bytes of an instruction determine it. -/
theorem encode_injective : Function.Injective encode := by
  intro i j h
  rw [← i.build_opcode_operand, ← j.build_opcode_operand]
  simp only [Instr.opcode, Instr.operand, h]

/-- The bytes of an instruction are its opcode and the bytes of its operand that its row consumes. -/
theorem encode_eq (i : Instr) :
    encode i = i.opcode :: [loByte i.operand, hiByte i.operand].take i.entry.mode.operandBytes := by
  calc
    encode i = encode (build i.opcode (loByte i.operand) (hiByte i.operand)) := by rw [i.build_opcode_operand]
    _ = _ := encode_build _ _ _

@[simp] theorem encode_length (i : Instr) : (encode i).length = i.entry.mode.length := by
  rw [encode_eq, Mode.length]
  obtain h | h | h := i.entry.mode.operandBytes_cases <;> simp [h]

theorem Instr.wellFormed_eq_true (i : Instr) : i.wellFormed = true := by
  have opcode : hasOpcode (encode i) = true := by rw [encode_eq]; rfl
  have operands : hasOperands (encode i) = true := beq_iff_eq.mpr (encode_length i)
  rw [Instr.wellFormed, codeWellFormed, opcode, operands, Bool.and_self]

/-! ### The decoder -/

section
variable (opcode : Byte) (tail : List Byte)

/-- Where its operand bytes are all there, an opcode decodes to the instruction of exactly those bytes. -/
theorem decode_of_enough_bytes (enough : (table opcode).mode.operandBytes ≤ tail.length) :
    ∃ i, encode i = opcode :: tail.take (table opcode).mode.operandBytes ∧
      decode (opcode :: tail) = .ok i (tail.drop (table opcode).mode.operandBytes) := by
  obtain zero | one | two := (table opcode).mode.operandBytes_cases
  · exact ⟨build opcode 0#8 0#8, by simp [encode_build, zero], by simp [decode, zero]⟩
  · obtain ⟨b1, rest, rfl⟩ := List.exists_cons_of_length_pos (by omega : 0 < tail.length)
    exact ⟨build opcode b1 0#8, by simp [encode_build, one], by simp [decode, one]⟩
  · match tail with
    | [] | [_] => simp [two] at enough
    | b1 :: b2 :: rest => exact ⟨build opcode b1 b2, by simp [encode_build, two], by simp [decode, two]⟩

/-- Where an operand byte is missing, an opcode is rejected. -/
theorem decode_of_missing_bytes (missing : tail.length < (table opcode).mode.operandBytes) :
    decode (opcode :: tail) = .rejected (.truncated opcode) := by
  obtain zero | one | two := (table opcode).mode.operandBytes_cases
  · omega
  · match tail with
    | [] => simp [decode, one]
    | _ :: _ => rw [one, List.length_cons] at missing; omega
  · match tail with
    | [] | [_] => simp [decode, two]
    | _ :: _ :: _ => rw [two, List.length_cons, List.length_cons] at missing; omega

end

theorem decode_encode_append (i : Instr) (rest : List Byte) : decode (encode i ++ rest) = .ok i rest := by
  obtain ⟨operands, bytes⟩ : ∃ operands, encode i = i.opcode :: operands := ⟨_, encode_eq i⟩
  have length : operands.length = (table i.opcode).mode.operandBytes := by
    simpa [bytes, Mode.length, Instr.entry] using encode_length i
  obtain ⟨j, bytes', decoded⟩ := decode_of_enough_bytes i.opcode (operands ++ rest) (by simp [length])
  rw [← length, List.take_left, ← bytes] at bytes'
  rw [← length, List.drop_left, encode_injective bytes'] at decoded
  rwa [bytes]

/-- The decoder has three answers: there is no opcode, an operand byte is missing, or the bytes begin with the encoding of what
it answers. -/
theorem decode_cases (bs : List Byte) :
    (bs = [] ∧ decode bs = .rejected .noBytes) ∨
    (∃ opcode tail, bs = opcode :: tail ∧ tail.length < (table opcode).mode.operandBytes ∧
      decode bs = .rejected (.truncated opcode)) ∨
    ∃ i rest, bs = encode i ++ rest ∧ decode bs = .ok i rest := by
  match bs with
  | [] => exact .inl ⟨rfl, rfl⟩
  | opcode :: tail =>
    obtain missing | enough := Nat.lt_or_ge tail.length (table opcode).mode.operandBytes
    · exact .inr (.inl ⟨opcode, tail, rfl, missing, decode_of_missing_bytes opcode tail missing⟩)
    · obtain ⟨i, bytes, decoded⟩ := decode_of_enough_bytes opcode tail enough
      exact .inr (.inr ⟨i, _, by rw [bytes, List.cons_append, List.take_append_drop], decoded⟩)

/-- Settles O1: the decoder takes as many operand bytes as the encoder wrote, and no other instruction has these bytes. -/
theorem decodeOfEncodeGivesBack : Obligations.DecodeOfEncodeGivesBack := by
  unfold Obligations.DecodeOfEncodeGivesBack
  exact fun i rest => ⟨i.wellFormed_eq_true, decode_encode_append i rest⟩

/-- Settles O2: of the decoder's three answers one is an instruction. -/
theorem encodeOfDecodeGivesBack : Obligations.EncodeOfDecodeGivesBack := by
  unfold Obligations.EncodeOfDecodeGivesBack
  intro bs rest i decoded
  obtain ⟨-, rejected⟩ | ⟨_, _, -, -, rejected⟩ | ⟨j, rest', bytes, decoded'⟩ := decode_cases bs
  · simp [rejected] at decoded
  · simp [rejected] at decoded
  · obtain ⟨rfl, rfl⟩ : j = i ∧ rest' = rest := by simpa [decoded'] using decoded
    exact bytes.symm

/-- Settles O3: two of the decoder's three answers reject, both for want of bytes; and what is accepted begins with the opcode. -/
theorem decoderRejectsOnlyMissingBytes : Obligations.DecoderRejectsOnlyMissingBytes := by
  unfold Obligations.DecoderRejectsOnlyMissingBytes
  refine ⟨fun bs => ?_, fun opcode b1 b2 rest => ?_⟩
  · obtain ⟨rfl, rejected⟩ | ⟨opcode, tail, rfl, missing, rejected⟩ | ⟨i, rest, rfl, decoded⟩ := decode_cases bs
    · simp [rejected]
    · simp [rejected, Mode.length, missing]
    · have opcode : (encode i ++ rest).headD 0#8 = i.opcode := by rw [encode_eq]; rfl
      have nonempty : encode i ≠ [] := by simp [encode_eq]
      rw [opcode]
      simp [decoded, nonempty, Instr.entry]
  · have enough : (table opcode).mode.operandBytes ≤ (b1 :: b2 :: rest).length := by
      obtain h | h | h := (table opcode).mode.operandBytes_cases <;> simp [h]
    obtain ⟨i, bytes, decoded⟩ := decode_of_enough_bytes opcode (b1 :: b2 :: rest) enough
    exact ⟨i, decoded, by rw [Instr.opcode, bytes, List.headD_cons]⟩

/-- Settles O4, by running the decoder on each word. -/
theorem spelledOutWordsDecode : Obligations.SpelledOutWordsDecode := by
  unfold Obligations.SpelledOutWordsDecode
  decide

end Sys2Proof
end

section
/-! The resolver as numbers (40_engine.md R92 to R105): what each addressing mode answers. -/

namespace Sys2Proof.Machine

/-! ### Addresses made of bytes -/

theorem zext16_eq_ofNat (b : Byte) : zext16 b = BitVec.ofNat 16 b.toNat := (BitVec.ofNat_toNat 16 b).symm

theorem zext16_add_eq_ofNat (b c : Byte) : zext16 (b + c) = BitVec.ofNat 16 ((b.toNat + c.toNat) % 256) := by
  rw [zext16_eq_ofNat, BitVec.toNat_add]

theorem wordOf_eq_ofNat (l h : Byte) : wordOf l h = BitVec.ofNat 16 (l.toNat + 256 * h.toNat) := by
  have hl : l.toNat < 256 := l.isLt
  have hh : h.toNat < 256 := h.isLt
  apply BitVec.eq_of_toNat_eq
  rw [wordOf_toNat, BitVec.toNat_ofNat]; omega

/-- `signed8` of a byte is the byte read in two's complement (00_scope.md R8). -/
theorem signed8_eq_toInt (v : Byte) : signed8 v = v.toInt := by
  rw [signed8, BitVec.toInt_eq_toNat_cond]
  split <;> split <;> omega

theorem sext16_eq_ofInt (v : Byte) : sext16 v = BitVec.ofInt 16 (signed8 v) := by
  rw [signed8_eq_toInt]; rfl

/-- The target of a branch is PC0 + 2 plus the signed displacement (40_engine.md R94). -/
theorem relativeTarget_eq_ofInt (pc : Addr) (v : Byte) :
    pc + 2#16 + sext16 v = BitVec.ofInt 16 ((pc.toNat : Int) + 2 + signed8 v) := by
  have hpc : BitVec.ofInt 16 (pc.toNat : Int) = pc := by
    rw [BitVec.ofInt_natCast, BitVec.ofNat_toNat, BitVec.setWidth_eq]
  rw [BitVec.ofInt_add, BitVec.ofInt_add, hpc, sext16_eq_ofInt]; rfl

/-! ### Indexing a base address -/

section
variable (base : Addr) (index : Byte)

/-- Indexing carries into the high byte and wraps at $FFFF (40_engine.md R100). -/
theorem indexed_toNat : (base + zext16 index).toNat = (base.toNat + index.toNat) % 65536 := by
  rw [BitVec.toNat_add, zext16_toNat]

theorem crosses_eq_decide : crosses base index = decide (0xFF < base.toNat % 256 + index.toNat) := by
  rw [crosses, loByte_toNat]

/-- The carry out of the low byte is what changes the high byte (glossary of R12). -/
theorem crosses_iff_hiByte_ne : crosses base index = true ↔ hiByte (base + zext16 index) ≠ hiByte base := by
  have hb : base.toNat < 65536 := base.isLt
  have hi : index.toNat < 256 := index.isLt
  rw [crosses_eq_decide, decide_eq_true_iff, Ne, ← BitVec.toNat_inj, hiByte_toNat, hiByte_toNat, indexed_toNat]
  omega

end

section
variable (s : State)

/-! ### Zero-page pointers -/

/-- Where the high byte of a zero-page pointer at `z` stands, under ZP_PTR_WRAP (40_engine.md R103). -/
def State.pointerNext (s : State) (z : Nat) : Nat := if s.params.zpPtrWrap then (z + 1) % 256 else z + 1

/-- The word behind a zero-page pointer at `z`, as a number. -/
def State.pointerWord (s : State) (z : Nat) : Nat :=
  (s.peek (BitVec.ofNat 16 z)).toNat + 256 * (s.peek (BitVec.ofNat 16 (s.pointerNext z))).toNat

theorem State.pointerNext_toNat (z : Byte) :
    (if s.params.zpPtrWrap then zext16 (z + 1#8) else zext16 z + 1#16) = BitVec.ofNat 16 (s.pointerNext z.toNat) := by
  rw [State.pointerNext]
  split
  · exact zext16_add_eq_ofNat z 1#8
  · rw [zext16_eq_ofNat, BitVec.ofNat_add]

theorem State.readPointer_eq_ofNat (z : Byte) :
    s.readPointer z = (BitVec.ofNat 16 (s.pointerWord z.toNat), s) := by
  rw [State.readPointer_eq, State.pointerNext_toNat, wordOf_eq_ofNat, zext16_eq_ofNat, State.pointerWord]

/-! ### The modes -/

theorem State.resolve_absX (w : Addr) :
    s.resolve .absX w = ⟨.mem (w + zext16 s.x), crosses w s.x, s⟩ := rfl

theorem State.resolve_absY (w : Addr) :
    s.resolve .absY w = ⟨.mem (w + zext16 s.y), crosses w s.y, s⟩ := rfl

theorem State.resolve_indX (op8 : Byte) :
    s.resolve .indX (zext16 op8) = ⟨.mem (BitVec.ofNat 16 (s.pointerWord ((op8.toNat + s.x.toNat) % 256))), false, s⟩ := by
  simp only [State.resolve, loByte_zext16, State.readPointer_eq_ofNat, BitVec.toNat_add, Nat.reducePow]

theorem State.resolve_indY (op8 : Byte) :
    s.resolve .indY (zext16 op8) = ⟨.mem (BitVec.ofNat 16 (s.pointerWord op8.toNat + s.y.toNat)),
      decide (0xFF < s.pointerWord op8.toNat % 256 + s.y.toNat), s⟩ := by
  have low : (BitVec.ofNat 16 (s.pointerWord op8.toNat)).toNat % 256 = s.pointerWord op8.toNat % 256 := by
    rw [BitVec.toNat_ofNat]; omega
  simp only [State.resolve, loByte_zext16, State.readPointer_eq_ofNat, crosses_eq_decide, low]
  rw [zext16_eq_ofNat, ← BitVec.ofNat_add]

end

/-- Settles O34: the zero-page modes add bytes, so they stay in page 0, and only the relative target and the immediate address
are sums of words. -/
theorem resolverModesWithoutCarry : Obligations.ResolverModesWithoutCarry := by
  unfold Obligations.ResolverModesWithoutCarry
  intro s op8
  have immediate : s.pc + 1#16 = BitVec.ofNat 16 ((s.pc.toNat + 1) % 65536) := by
    apply BitVec.eq_of_toNat_eq; simp
  simp only [State.resolve, loByte_zext16, immediate, relativeTarget_eq_ofInt, zext16_add_eq_ofNat, and_true, true_and]
  rw [zext16_eq_ofNat]

/-- Settles O35: both indexed modes index the operand word, X in one and Y in the other. -/
theorem resolverAbsoluteModes : Obligations.ResolverAbsoluteModes := by
  unfold Obligations.ResolverAbsoluteModes
  exact fun s w => ⟨rfl,
    ⟨_, _, s.resolve_absX w, indexed_toNat w s.x, crosses_eq_decide w s.x, crosses_iff_hiByte_ne w s.x⟩,
    ⟨_, _, s.resolve_absY w, indexed_toNat w s.y, crosses_eq_decide w s.y, crosses_iff_hiByte_ne w s.y⟩⟩

/-- Settles O36: (zp,X) indexes the pointer's address within page 0, (zp),Y the word behind the pointer. -/
theorem resolverPointerModes : Obligations.ResolverPointerModes := by
  unfold Obligations.ResolverPointerModes
  exact fun s op8 => ⟨s.resolve_indX op8, s.resolve_indY op8⟩

end Sys2Proof.Machine
end

section
/-! JMP (44_control_flow.md R154) and the pointer of its indirect form (40_engine.md R102). -/

namespace Sys2Proof.Machine

/-- The address JMP (ind) reads the target's high byte at, under JMP_IND_PAGE_BUG (40_engine.md R102). -/
def State.indirectNext (s : State) (w : Addr) : Addr :=
  if s.params.jmpIndPageBug = true ∧ w.toNat % 256 = 255 then BitVec.ofNat 16 (w.toNat - 255) else w + 1#16

/-- A pointer's next address without the carry into its high byte: only at $xxFF is it another than the next address. -/
theorem wordOf_succ_loByte (w : Addr) :
    wordOf (loByte w + 1#8) (hiByte w) = if w.toNat % 256 = 255 then BitVec.ofNat 16 (w.toNat - 255) else w + 1#16 := by
  have hw : w.toNat < 65536 := w.isLt
  apply BitVec.eq_of_toNat_eq
  rw [wordOf_toNat, BitVec.toNat_add, loByte_toNat, hiByte_toNat]
  split
  · simp only [BitVec.toNat_ofNat]; omega
  · simp only [BitVec.toNat_add, BitVec.toNat_ofNat]; omega

theorem State.readIndirect_eq (s : State) (w : Addr) :
    s.readIndirect w = (wordOf (s.peek w) ((s.afterRead w).peek (s.indirectNext w)),
      (s.afterRead w).afterRead (s.indirectNext w)) := by
  have next : (if s.params.jmpIndPageBug then wordOf (loByte w + 1#8) (hiByte w) else w + 1#16) = s.indirectNext w := by
    rw [State.indirectNext, wordOf_succ_loByte]
    cases s.params.jmpIndPageBug <;> simp
  simp only [State.readIndirect, State.busRead, next]

theorem exec_jmpAbs (op16 : Addr) (s : State) :
    exec (.jmpAbs op16) s = .next { s with pc := op16, tick := s.tick + 3 } := rfl

theorem exec_jmpInd (op16 : Addr) (s : State) :
    exec (.jmpInd op16) s = .next (((s.readIndirect op16).2.setPc (s.readIndirect op16).1).addTicks 5) := rfl

/-- Settles O50: JMP (ind) changes PC, `tick` and, by its two pointer reads, the picture generator. -/
theorem jumpsGoToTheirTarget : Obligations.JumpsGoToTheirTarget := by
  unfold Obligations.JumpsGoToTheirTarget
  intro op16 s
  refine ⟨rfl, rfl, exec_jmpAbs op16 s, ?_⟩
  rw [exec_jmpInd, State.readIndirect_snd_eq, State.readIndirect_eq]
  rfl

end Sys2Proof.Machine
end

section
/-! The fetch (40_engine.md R87 to R89): by the number of operand bytes of the opcode at PC, what it builds and what it leaves. -/

namespace Sys2Proof.Machine

section
variable (s : State)

theorem State.fetch_of_no_operand (h : (table (s.peek s.pc)).mode.operandBytes = 0) :
    s.fetch = (build (s.peek s.pc) 0#8 0#8, s.afterRead s.pc) := by
  simp only [State.fetch, State.busRead, h]

/-- The byte that a NOP's immediate operand is recorded as is the one a read would have answered (log 6). -/
theorem State.fetch_of_operand_byte (h : (table (s.peek s.pc)).mode.operandBytes = 1) :
    s.fetch = (build (s.peek s.pc) ((s.afterRead s.pc).peek (s.pc + 1#16)) 0#8,
      if (table (s.peek s.pc)).op = .nop ∧ (table (s.peek s.pc)).mode = .imm then s.afterRead s.pc
      else (s.afterRead s.pc).afterRead (s.pc + 1#16)) := by
  simp only [State.fetch, State.busRead, h, State.fetchOperand, State.afterRead_pc]
  split <;> rfl

theorem State.fetch_of_operand_word (h : (table (s.peek s.pc)).mode.operandBytes = 2) :
    s.fetch = (build (s.peek s.pc) ((s.afterRead s.pc).peek (s.pc + 1#16))
        (((s.afterRead s.pc).afterRead (s.pc + 1#16)).peek (s.pc + 2#16)),
      ((s.afterRead s.pc).afterRead (s.pc + 1#16)).afterRead (s.pc + 2#16)) := by
  have next : s.pc + 1#16 + 1#16 = s.pc + 2#16 := BitVec.add_assoc _ _ _
  simp only [State.fetch, State.busRead, h, State.readWord_eq, State.afterRead_pc, next, loByte_wordOf, hiByte_wordOf]

/-- Outside the window the fetch is the decoder on the bytes at PC, and leaves the state as it is. -/
theorem State.fetch_of_not_inWindow {i : Instr} {rest : List Byte} (h0 : inWindow s.pc = false)
    (h1 : inWindow (s.pc + 1#16) = false) (h2 : inWindow (s.pc + 2#16) = false)
    (decoded : decode [s.peek s.pc, s.peek (s.pc + 1#16), s.peek (s.pc + 2#16)] = .ok i rest) : s.fetch = (i, s) := by
  obtain zero | one | two := (table (s.peek s.pc)).mode.operandBytes_cases
  · simp only [decode, zero, Decoded.ok.injEq] at decoded
    rw [s.fetch_of_no_operand zero, decoded.1, State.afterRead_of_not_inWindow s h0]
  · simp only [decode, one, Decoded.ok.injEq] at decoded
    simp only [s.fetch_of_operand_byte one, State.afterRead_of_not_inWindow, h0, h1, decoded.1, ite_self]
  · simp only [decode, two, Decoded.ok.injEq] at decoded
    simp only [s.fetch_of_operand_word two, State.afterRead_of_not_inWindow, h0, h1, h2, decoded.1]

end

/-- Settles O6: with no request to take a step is `exec` of what the fetch gives, and the fetch builds what the decoder would
from the bytes it read. -/
theorem stepRunsTheDecodedInstruction : Obligations.StepRunsTheDecodedInstruction := by
  unfold Obligations.StepRunsTheDecodedInstruction
  intro s reset nmi irq
  have idle : s.takeRequest = none := by
    rw [State.takeRequest, reset, nmi]
    obtain h | h := irq <;> simp [h]
  rw [step_of_no_request s idle]
  refine ⟨fun i rest h0 h1 h2 decoded => ?_, fun zero => ?_, fun one => ?_, fun two => ?_⟩
  · rw [s.fetch_of_not_inWindow h0 h1 h2 decoded]
  · exact ⟨s.fetch.1, by simp only [decode, zero, s.fetch_of_no_operand zero], by rw [s.fetch_of_no_operand zero]⟩
  · exact ⟨s.fetch.1, by simp only [decode, one, s.fetch_of_operand_byte one],
      by rw [s.fetch_of_operand_byte one, build_entry]⟩
  · exact ⟨s.fetch.1, by simp only [decode, two, s.fetch_of_operand_word two], by rw [s.fetch_of_operand_word two]⟩

end Sys2Proof.Machine
end

section
/-! Cycles (70_reset_and_hazards.md R205) and the frame driver (40_engine.md R106, R107). -/

namespace Sys2Proof.Machine

/-! ### What a boundary adds to `tick` -/

section
variable (s : State)

theorem State.tick_le_writeOperand (ea : EA) (v : Byte) : s.tick ≤ (s.writeOperand ea v).tick := by
  cases ea with
  | implied => exact Nat.le_refl _
  | imm a _ => rw [State.writeOperand, State.busWrite_tick]; exact Nat.le_add_right _ _
  | mem a => rw [State.writeOperand, State.busWrite_tick]; exact Nat.le_add_right _ _

theorem State.tick_le_modifyOperand (ea : EA) (v : Byte) : s.tick ≤ ((s.readOperand ea).2.writeOperand ea v).tick :=
  Nat.le_trans (Nat.le_of_eq (s.readOperand_tick ea).symm) (State.tick_le_writeOperand _ ea v)

theorem State.tick_jumpTo (ea : EA) : (s.jumpTo ea).tick = s.tick := by
  rw [State.jumpTo_eq]; rfl

theorem State.tick_le_branch (cond : Bool) (ea : EA) : s.tick ≤ (s.branch cond ea).tick := by
  cases cond with
  | false => exact Nat.le_refl _
  | true => exact Nat.le_trans (Nat.le_of_eq (s.tick_jumpTo ea).symm) (Nat.le_add_right _ _)

theorem State.tick_enterVia (ret : Addr) (pushed : Byte) (vector : Addr) :
    (s.enterVia ret pushed vector).tick = s.tick := by
  have pushes : (((s.pushWord ret).push pushed).setFlag .i true).tick = s.tick := by simp
  simp only [State.enterVia]
  rw [State.readWord_snd_eq]; exact pushes

theorem State.tick_resetSequence : s.resetSequence.tick = s.tick := by
  rw [State.resetSequence_eq]

/-- No operation takes cycles back. -/
theorem Op.tick_le_body (op : Op) (ea : EA) : s.tick ≤ (Op.body op ea s).tick := by
  cases op with
  | lda | ldx | ldy | adc | sbc | cmp | cpx | cpy | and | ora | eor | bit => exact Nat.le_of_eq (s.readOperand_tick ea).symm
  | sta | stx | sty => exact s.tick_le_writeOperand ea _
  | inc | dec | asl | lsr | rol | ror => exact s.tick_le_modifyOperand ea _
  | tax | tay | txa | tya | tsx | txs | inx | iny | dex | dey => exact Nat.le_refl _
  | clc | cld | cli | clv | sec | sed | sei | nop => exact Nat.le_refl _
  | bpl | bmi | bvc | bvs | bcc | bcs | bne | beq => exact s.tick_le_branch _ ea
  | jmp => exact Nat.le_of_eq (s.tick_jumpTo ea).symm
  | jsr => exact Nat.le_of_eq ((State.tick_jumpTo _ ea).trans (s.pushWord_tick _)).symm
  | rts => exact Nat.le_of_eq s.pullWord_tick.symm
  | brk => exact Nat.le_of_eq (s.tick_enterVia _ _ _).symm
  | rti => exact Nat.le_of_eq (congrArg State.tick s.returnFromInterrupt_eq).symm
  | pha | php => exact Nat.le_of_eq (s.push_tick _).symm
  | pla | plp => exact Nat.le_of_eq s.pull_tick.symm
  | kil => exact Nat.le_of_eq s.tick_resetSequence.symm

/-- Every row of the table of base cycles takes two at least (70_reset_and_hazards.md R208). -/
theorem two_le_table_base : ∀ opcode : Byte, 2 ≤ (table opcode).base := by
  decide +kernel

theorem State.tick_add_two_le_after {e : Entry} (base : 2 ≤ e.base) (w : Addr) : s.tick + 2 ≤ (s.after e w).tick := by
  have body := Op.tick_le_body ((s.resolve e.mode w).state.setPc (s.pc + BitVec.ofNat 16 e.mode.length)) e.op
    (s.resolve e.mode w).ea
  rw [State.setPc_tick, State.resolve_tick] at body
  rw [State.after, State.addTicks_tick]
  omega

theorem State.tick_enterInterrupt (vector : Addr) : (s.enterInterrupt vector).tick = s.tick + 7 := by
  rw [State.enterInterrupt, State.addTicks_tick, State.tick_enterVia]

/-- A boundary that takes no RESET request adds two cycles at least. -/
theorem tick_add_two_le_of_step {t : State} (next : step s = .next t) (hr : s.resetReq = false) : s.tick + 2 ≤ t.tick := by
  obtain ⟨reset, -⟩ | ⟨-, -, nmi⟩ | ⟨-, -, -, -, irq⟩ | ⟨-, -, -, idle⟩ := s.takeRequest_cases
  · simp [hr] at reset
  · cases (step_of_request s nmi).symm.trans next
    rw [State.tick_enterInterrupt, State.setNmiPending_tick]; omega
  · cases (step_of_request s irq).symm.trans next
    rw [State.tick_enterInterrupt]; omega
  · cases ((step_of_no_request s idle).trans (exec_eq_after _ _)).symm.trans next
    have fetched : s.fetch.2.tick = s.tick := by rw [State.fetch_snd_eq]; rfl
    rw [← fetched]
    exact State.tick_add_two_le_after _ (by rw [State.fetch_fst_entry]; exact two_le_table_base _) _

/-- What the frame loop needs of a boundary: there is at most one RESET request, taken first, and every other boundary adds a
cycle; the frame driver's variables stay. -/
theorem step_progress : ∃ t, step s = .next t ∧ t.frame = s.frame ∧
    s.tick + 1 + t.resetReq.toNat ≤ t.tick + s.resetReq.toNat := by
  obtain ⟨t, next, -, unlatched, -, -, frame⟩ := stepLeavesHostInputsToTheHost s
  refine ⟨t, next, frame, ?_⟩
  rw [unlatched]
  cases hr : s.resetReq with
  | true =>
    cases (step_of_resetReq hr).symm.trans next
    simp [State.tick_resetSequence]
  | false =>
    have := tick_add_two_le_of_step s next hr
    simp only [Bool.toNat_false]; omega

end

/-! ### The frame loop -/

/-- `n` boundaries lead from `s` to `u`, each begun with `tick` below the frame end, and `u` has reached it. -/
structure ReachesFrameEnd (s u : State) (n : Nat) : Prop where
  run : Sys2Proof.core.run n s = .next u
  frame : u.frame = s.frame
  spent : s.frame.frameEnd ≤ (u.tick : Rat)
  below : ∀ k, k < n → ∃ v : State, Sys2Proof.core.run k s = .next v ∧ (v.tick : Rat) < s.frame.frameEnd

theorem ReachesFrameEnd.zero {s : State} (spent : s.frame.frameEnd ≤ (s.tick : Rat)) : ReachesFrameEnd s s 0 :=
  ⟨run_zero s, rfl, spent, fun k hk => absurd hk k.not_lt_zero⟩

theorem ReachesFrameEnd.succ {s t u : State} {n : Nat} (h : ReachesFrameEnd t u n) (next : step s = .next t)
    (frame : t.frame = s.frame) (below : (s.tick : Rat) < s.frame.frameEnd) : ReachesFrameEnd s u (n + 1) where
  run := (run_succ s n next).trans h.run
  frame := h.frame.trans frame
  spent := frame ▸ h.spent
  below k hk := by
    cases k with
    | zero => exact ⟨s, run_zero s, below⟩
    | succ k =>
      obtain ⟨v, run, hv⟩ := h.below k (Nat.lt_of_succ_lt_succ hk)
      exact ⟨v, (run_succ s k next).trans run, frame ▸ hv⟩

theorem runBoundaries_of_spent {s : State} (spent : s.frame.frameEnd ≤ (s.tick : Rat)) (fuel : Nat) :
    runBoundaries fuel s = .next s := by
  cases fuel with
  | zero => rfl
  | succ fuel => rw [runBoundaries, if_neg (Rat.not_lt.mpr spent)]

theorem runBoundaries_succ {s t : State} (below : (s.tick : Rat) < s.frame.frameEnd) (next : step s = .next t) (fuel : Nat) :
    runBoundaries (fuel + 1) s = runBoundaries fuel t := by
  rw [runBoundaries, if_pos below, next]

/-- `tick` reaches the frame end when it reaches the next whole number of cycles. -/
theorem le_natCast_iff_ceil_le (frameEnd : Rat) (tick : Nat) : frameEnd ≤ (tick : Rat) ↔ frameEnd.ceil ≤ (tick : Int) := by
  rw [Rat.ceil_le_iff, Rat.intCast_natCast]

/-- With as much fuel as cycles are missing, and one more for a RESET request, the loop ends at the frame end and not for want
of fuel. -/
theorem runBoundaries_reachesFrameEnd (fuel : Nat) {s : State}
    (enough : s.frame.frameEnd.ceil + s.resetReq.toNat ≤ ((s.tick + fuel : Nat) : Int)) :
    ∃ u n, runBoundaries fuel s = .next u ∧ ReachesFrameEnd s u n := by
  induction fuel generalizing s with
  | zero =>
    have spent : s.frame.frameEnd ≤ (s.tick : Rat) := (le_natCast_iff_ceil_le _ _).mpr (by omega)
    exact ⟨s, 0, rfl, .zero spent⟩
  | succ fuel ih =>
    by_cases below : (s.tick : Rat) < s.frame.frameEnd
    · obtain ⟨t, next, frame, progress⟩ := step_progress s
      obtain ⟨u, n, run, reaches⟩ := ih (s := t) (by rw [frame]; omega)
      exact ⟨u, n + 1, (runBoundaries_succ below next fuel).trans run, reaches.succ next frame below⟩
    · have spent : s.frame.frameEnd ≤ (s.tick : Rat) := Rat.not_lt.mp below
      exact ⟨s, 0, runBoundaries_of_spent spent _, .zero spent⟩

/-- The fuel of a frame is enough. -/
theorem frameFuel_enough (s : State) :
    s.frame.frameEnd.ceil + s.resetReq.toNat ≤ ((s.tick + frameFuel s : Nat) : Int) := by
  have := s.resetReq.toNat_le
  rw [frameFuel]; omega

/-- Settles O22: the busy flag is tested before anything else is done. -/
theorem nestedRunFrameIsANoOp : Obligations.NestedRunFrameIsANoOp := by
  unfold Obligations.NestedRunFrameIsANoOp
  intro budget s busy
  rw [runFrame, if_pos busy]

/-- Settles O21: every boundary but one RESET adds a cycle, so the bound on the loop is never what ends it. -/
theorem runFrameRunsUntilTheBudgetIsSpent : Obligations.RunFrameRunsUntilTheBudgetIsSpent := by
  unfold Obligations.RunFrameRunsUntilTheBudgetIsSpent
  intro budget s idle
  obtain ⟨u, n, loop, reaches⟩ := runBoundaries_reachesFrameEnd _
    (frameFuel_enough (s.setFrame { frameEnd := s.frame.frameEnd + budget, busy := true }))
  have frame : u.frame = { frameEnd := s.frame.frameEnd + budget, busy := true } := reaches.frame
  have run : runFrame budget s = .next (u.setFrame { frameEnd := s.frame.frameEnd + budget, busy := false }) := by
    simp only [runFrame, idle, Bool.false_eq_true, if_false, loop, frame]
  exact ⟨_, u, n, run, rfl, reaches.spent, reaches.run, rfl, reaches.below⟩

end Sys2Proof.Machine
end

section
/-! An instruction that at most reads its operand, and one that stores a register: the state each ends in, and its frame
(40_engine.md R86 to R91). -/

namespace Sys2Proof.Machine

/-! ### The forms of a mnemonic -/

/-- What holds of every instruction with an operation holds of a list of its forms, each with its opcode. -/
theorem forall_forms {rows : List (Byte × Instr)} (op : Op) {P : Byte × Instr → Prop}
    (forms : rows.map (fun r => (r.2.opcode, (table r.1).op)) = rows.map (fun r => (r.1, op)))
    (holds : ∀ r : Byte × Instr, r.2.entry.op = op → P r) : ∀ r ∈ rows, r.2.opcode = r.1 ∧ P r := by
  intro r hr
  have form : (r.2.opcode, (table r.1).op) = (r.1, op) := List.map_inj_left.mp forms r hr
  obtain ⟨opcode, rowOp⟩ := Prod.mk.inj form
  exact ⟨opcode, holds r ((congrArg (fun c => (table c).op) opcode).trans rowOp)⟩

section
variable (s : State) (i : Instr)

/-! ### Reading the operand -/

/-- The resolver's reads and the operand's change the picture generator at most. -/
theorem State.afterOperand_eq : s.afterOperand i = s.setPpu (s.afterOperand i).ppu := by
  simp only [State.afterOperand, State.resolved]
  rw [State.readOperand_snd_eq, State.resolve_state_eq]; rfl

/-- What an instruction leaves that reads its operand and writes no register and no flag. -/
def State.pastOperand : State := ((s.setPpu (s.afterOperand i).ppu).setPc (s.nextPc i)).addTicks (s.cost i)

/-- An instruction that hands its operand to `f`, which writes registers and flags, ends in `f` of the state past the operand. -/
theorem exec_of_reads (f : Byte → State → State)
    (body : ∀ u : State, Op.body i.entry.op (s.resolved i).ea u =
      f (u.readOperand (s.resolved i).ea).1 (u.readOperand (s.resolved i).ea).2)
    (ticks : ∀ (v : Byte) (u : State) (n : Nat), (f v u).addTicks n = f v (u.addTicks n)) :
    exec i s = .next (f (s.operandByte i) (s.pastOperand i)) := by
  have past : ((s.afterOperand i).setPc (s.nextPc i)).addTicks (s.cost i) = s.pastOperand i := by
    rw [State.afterOperand_eq]; rfl
  have read : Op.body i.entry.op (s.resolved i).ea ((s.resolved i).state.setPc (s.nextPc i)) =
      f (s.operandByte i) ((s.afterOperand i).setPc (s.nextPc i)) := by
    rw [body, State.readOperand_setPc]; rfl
  calc
    _ = .next ((Op.body i.entry.op (s.resolved i).ea ((s.resolved i).state.setPc (s.nextPc i))).addTicks (s.cost i)) :=
      exec_eq_after i s
    _ = _ := by rw [read, ticks, past]

/-! ### Writing registers and flags -/

/-- Write A, X, Y and SP. -/
def State.setRegisters (a x y sp : Byte) : State := (((s.setA a).setX x).setY y).setSp sp

/-- Writing registers and flags past the operand keeps the frame of an instruction that only reads. -/
theorem State.readFrame_pastOperand (a x y sp p : Byte) :
    ReadFrame s (((s.pastOperand i).setRegisters a x y sp).setP p) i :=
  ⟨.of_eq rfl rfl, rfl, ⟨rfl, rfl, rfl, rfl, rfl⟩, rfl, rfl⟩

/-- Past the operand, the registers are written and Z and N set from `v`. -/
theorem State.setRegisters_setZN (a x y sp v : Byte) :
    let t := ((s.pastOperand i).setRegisters a x y sp).setZN v
    RegsAre t a x y sp ∧ ZNof t v ∧ FlagsKept s t [.z, .n] ∧ ReadFrame s t i :=
  ⟨⟨rfl, rfl, rfl, rfl⟩, State.setZN_ZN _ v, (State.flagsKept_setZN _ v).of_p rfl, s.readFrame_pastOperand i a x y sp _⟩

/-- An instruction that comes down, past its operand, to writing registers and setting Z and N from `v`. -/
theorem exec_setZN_frame (f : Byte → State → State)
    (body : ∀ u : State, Op.body i.entry.op (s.resolved i).ea u =
      f (u.readOperand (s.resolved i).ea).1 (u.readOperand (s.resolved i).ea).2)
    (ticks : ∀ (v : Byte) (u : State) (n : Nat), (f v u).addTicks n = f v (u.addTicks n)) {a x y sp v : Byte}
    (ends : f (s.operandByte i) (s.pastOperand i) = ((s.pastOperand i).setRegisters a x y sp).setZN v) :
    ∃ t, exec i s = .next t ∧ RegsAre t a x y sp ∧ ZNof t v ∧ FlagsKept s t [.z, .n] ∧ ReadFrame s t i :=
  ⟨_, (exec_of_reads s i f body ticks).trans (congrArg _ ends), s.setRegisters_setZN i a x y sp v⟩

/-! ### Storing -/

/-- Where PC stands does not matter to a burst of reads. -/
theorem State.readBytes_setPc (pc a : Addr) (n : Nat) :
    (s.setPc pc).readBytes a n = ((s.readBytes a n).1, (s.readBytes a n).2.setPc pc) := by
  induction n generalizing s a with
  | zero => rfl
  | succ n ih =>
    have first : (s.setPc pc).busRead a = (s.peek a, (s.afterRead a).setPc pc) := s.readOperand_setPc pc (.mem a)
    obtain ⟨peek, after⟩ := Prod.mk.inj first
    simp only [State.readBytes_succ, peek, after, ih]

/-- Where PC stands does not matter to a write. -/
theorem State.busWrite_setPc (pc a : Addr) (v : Byte) : (s.setPc pc).busWrite a v = (s.busWrite a v).setPc pc := by
  simp only [State.busWrite]
  split
  case h_3 =>
    simp only [State.oamDma, State.readBytes_setPc]
    generalize s.readBytes (wordOf 0#8 v) 256 = burst
    rfl
  all_goals rfl

/-- A write at the resolved address, from a state that has the inputs and `tick` of the start, keeps a store's frame. -/
theorem State.storeFrame_busWrite {u : State} {a : Addr} (ea : (s.resolved i).ea = .mem a) (inputs : InputsKept s u)
    (tick : u.tick = s.tick) (v : Byte) :
    StoreFrame s u (((u.busWrite a v).setPc (s.nextPc i)).addTicks (s.cost i)) i v := by
  refine ⟨inputs.trans (u.inputsKept_busWrite a v), rfl, a, ea, u.stored_busWrite a v, ?_⟩
  simp only [State.addTicks_tick, State.setPc_tick, State.busWrite_tick, tick]
  omega

end

/-- The operations that write their operand in memory alone have an address to write, and no pointer read in the window. -/
theorem table_store_mode : ∀ opcode : Byte, (table opcode).op ∈ [Op.sta, .stx, .sty, .inc, .dec] →
    (table opcode).mode ∉ [Mode.imp, .acc, .imm, .ind] := by
  decide +kernel

theorem State.resolved_of_store (s : State) {i : Instr} (h : i.entry.op ∈ [Op.sta, .stx, .sty, .inc, .dec]) :
    (∃ a, (s.resolved i).ea = .mem a) ∧ (s.resolved i).state = s := by
  have mode : i.entry.mode ∉ [Mode.imp, .acc, .imm, .ind] := table_store_mode i.opcode h
  have ind : i.entry.mode ≠ .ind := fun e => mode (by simp [e])
  refine ⟨?_, s.resolve_state_of_ne_ind ind i.operand⟩
  cases ea : (s.resolved i).ea with
  | implied => obtain e | e := s.resolve_ea_eq_implied ea <;> simp [e] at mode
  | imm a v => obtain ⟨e, -⟩ := State.resolve_ea_eq_imm ea; simp [e] at mode
  | mem a => exact ⟨a, rfl⟩

end Sys2Proof.Machine
end

section
/-! Loads, stores and transfers (41_load_store_transfer.md R110 to R121). -/

namespace Sys2Proof.Machine

/-- STA, STX or STY: the byte `v` of the register is stored at EA, and no register or flag written. -/
theorem exec_store_frame {i : Instr} (s : State) {op : Op} (h : i.entry.op = op) (store : op ∈ [Op.sta, .stx, .sty]) (v : Byte)
    (body : ∀ (ea : EA) (pc : Addr), Op.body op ea (s.setPc pc) = (s.setPc pc).writeOperand ea v) :
    ∃ t, exec i s = .next t ∧ RegsAre t s.a s.x s.y s.sp ∧ FlagsKept s t [] ∧ StoreFrame s s t i v := by
  subst h
  obtain ⟨⟨a, ea⟩, state⟩ := s.resolved_of_store (List.mem_append_left [Op.inc, .dec] store)
  have write : Op.body i.entry.op (s.resolved i).ea ((s.resolved i).state.setPc (s.nextPc i)) =
      (s.busWrite a v).setPc (s.nextPc i) := by
    rw [state, body, ea, ← State.busWrite_setPc]; rfl
  refine ⟨((s.busWrite a v).setPc (s.nextPc i)).addTicks (s.cost i), ?_,
    ⟨s.busWrite_a a v, s.busWrite_x a v, s.busWrite_y a v, s.busWrite_sp a v⟩, (FlagsKept.refl _ _).of_p (s.busWrite_p a v),
    s.storeFrame_busWrite i ea (.refl s) rfl v⟩
  rw [← write]
  exact exec_eq_after i s

/-- Settles O37: a load writes one register past its operand, and Z and N with it. -/
theorem loadsPutTheOperandInTheirRegister : Obligations.LoadsPutTheOperandInTheirRegister := by
  unfold Obligations.LoadsPutTheOperandInTheirRegister
  intro op8 op16 s
  refine ⟨?lda, ?ldx, ?ldy⟩
  case lda =>
    exact forall_forms .lda (by simp only [List.map]; rfl) fun ⟨_, i⟩ h =>
      exec_setZN_frame s i (fun v u => (u.setA v).setZN v) (fun _ => by rw [h]; rfl) (fun _ _ _ => rfl) rfl
  case ldx =>
    exact forall_forms .ldx (by simp only [List.map]; rfl) fun ⟨_, i⟩ h =>
      exec_setZN_frame s i (fun v u => (u.setX v).setZN v) (fun _ => by rw [h]; rfl) (fun _ _ _ => rfl) rfl
  case ldy =>
    exact forall_forms .ldy (by simp only [List.map]; rfl) fun ⟨_, i⟩ h =>
      exec_setZN_frame s i (fun v u => (u.setY v).setZN v) (fun _ => by rw [h]; rfl) (fun _ _ _ => rfl) rfl

/-- Settles O38: the three stores differ in the register whose byte they write. -/
theorem storesWriteTheirRegisterAtEA : Obligations.StoresWriteTheirRegisterAtEA := by
  unfold Obligations.StoresWriteTheirRegisterAtEA
  intro op8 op16 s
  refine ⟨?sta, ?stx, ?sty⟩
  case sta =>
    exact forall_forms .sta (by simp only [List.map]; rfl) fun ⟨_, i⟩ h =>
      exec_store_frame s h (by decide) s.a fun _ _ => rfl
  case stx =>
    exact forall_forms .stx (by simp only [List.map]; rfl) fun ⟨_, i⟩ h =>
      exec_store_frame s h (by decide) s.x fun _ _ => rfl
  case sty =>
    exact forall_forms .sty (by simp only [List.map]; rfl) fun ⟨_, i⟩ h =>
      exec_store_frame s h (by decide) s.y fun _ _ => rfl

/-- Settles O39: a transfer is of implied mode, so nothing is read and only registers and flags are written. -/
theorem transfersCopyAndSetZN : Obligations.TransfersCopyAndSetZN := by
  unfold Obligations.TransfersCopyAndSetZN
  intro s
  constructor
  · simp only [List.forall_mem_cons, List.not_mem_nil, false_implies, implies_true, and_true]
    refine ⟨⟨rfl, ?tax⟩, ⟨rfl, ?tay⟩, ⟨rfl, ?txa⟩, ⟨rfl, ?tya⟩, ⟨rfl, ?tsx⟩⟩
    case tax => exact exec_setZN_frame s _ (fun _ u => (u.setX u.a).setZN u.a) (fun _ => rfl) (fun _ _ _ => rfl) rfl
    case tay => exact exec_setZN_frame s _ (fun _ u => (u.setY u.a).setZN u.a) (fun _ => rfl) (fun _ _ _ => rfl) rfl
    case txa => exact exec_setZN_frame s _ (fun _ u => (u.setA u.x).setZN u.x) (fun _ => rfl) (fun _ _ _ => rfl) rfl
    case tya => exact exec_setZN_frame s _ (fun _ u => (u.setA u.y).setZN u.y) (fun _ => rfl) (fun _ _ _ => rfl) rfl
    case tsx => exact exec_setZN_frame s _ (fun _ u => (u.setX u.sp).setZN u.sp) (fun _ => rfl) (fun _ _ _ => rfl) rfl
  · refine ⟨rfl, _, exec_of_reads s .txs (fun _ u => u.setSp u.x) (fun _ => rfl) (fun _ _ _ => rfl), ?_⟩
    exact ⟨⟨rfl, rfl, rfl, rfl⟩, FlagsKept.refl s [], s.readFrame_pastOperand .txs s.a s.x s.y s.x s.p⟩

end Sys2Proof.Machine
end

section
/-! ADC and SBC: the adder as numbers, unsigned and signed (42_arithmetic.md R122 to R125). -/

namespace Sys2Proof.Machine

section
variable (a m : Byte) (c : Bool)

/-! ### The adder -/

/-- The mask of the sign bit tests the sign bit. -/
theorem and_signMask_ne_zero (v : Byte) : ((v &&& 0x80#8) != 0#8) = v.msb := by
  have mask : v &&& 0x80#8 = if v.msb then 0x80#8 else 0#8 := BitVec.and_twoPow v 7
  rw [mask]
  cases v.msb <;> rfl

/-- V of the adder: the operands agree in sign and the result disagrees. -/
theorem adcOverflow_eq_msb :
    adcOverflow a m c = (a.msb == m.msb && (BitVec.ofNat 8 (adcSum a m c)).msb != a.msb) := by
  simp only [adcOverflow, and_signMask_ne_zero, BitVec.msb_and, BitVec.msb_xor]
  generalize (BitVec.ofNat 8 (adcSum a m c)).msb = r
  cases a.msb <;> cases m.msb <;> cases r <;> rfl

theorem adcResult_toNat : (BitVec.ofNat 8 (adcSum a m c)).toNat = (a.toNat + m.toNat + c.toNat) % 256 :=
  BitVec.toNat_ofNat _ 8

/-- The sum of A, the operand and the carry when A and the operand are signed (R122). -/
def signedSum : Int := signed8 a + signed8 m + c.toNat

/-- V of the adder is signed overflow, and without it the byte of the result is the signed sum (R122). -/
theorem adder_signed :
    adcOverflow a m c = decide (signedSum a m c < -128 ∨ 127 < signedSum a m c) ∧
      (adcOverflow a m c = false → signed8 (BitVec.ofNat 8 (adcSum a m c)) = signedSum a m c) := by
  have hc : c.toNat ≤ 1 := Bool.toNat_le c
  have ha : a.toNat < 256 := a.isLt
  have hm : m.toNat < 256 := m.isLt
  have signs : adcOverflow a m c = true ↔ (128 ≤ a.toNat ↔ 128 ≤ m.toNat) ∧
      ¬ (128 ≤ (a.toNat + m.toNat + c.toNat) % 256 ↔ 128 ≤ a.toNat) := by
    simp only [adcOverflow_eq_msb, BitVec.msb_eq_decide, adcResult_toNat, Bool.and_eq_true, beq_iff_eq, bne_iff_ne,
      decide_eq_decide, ne_eq]
  rw [Bool.eq_iff_iff, ← Bool.not_eq_true, signs, decide_eq_true_iff]
  simp only [signedSum, signed8, adcResult_toNat]
  split <;> split <;> omega

/-! ### The ones' complement that SBC adds (R125) -/

theorem onesComplement_toNat : (m ^^^ 0xFF#8).toNat = 255 - m.toNat := by
  have complement : m ^^^ 0xFF#8 = ~~~m := BitVec.xor_allOnes
  rw [complement, BitVec.toNat_not]

theorem onesComplement_msb : (m ^^^ 0xFF#8).msb = !m.msb := by
  rw [BitVec.msb_xor]; exact Bool.xor_true m.msb

theorem signed8_onesComplement : signed8 (m ^^^ 0xFF#8) = -1 - signed8 m := by
  have hm : m.toNat < 256 := m.isLt
  simp only [signed8, onesComplement_toNat]
  split <;> split <;> omega

/-- Adding the ones' complement computes the difference, and 256 more. -/
theorem adcSum_onesComplement :
    (adcSum a (m ^^^ 0xFF#8) c : Int) = (a.toNat - m.toNat - (1 - c.toNat) : Int) + 256 := by
  have hm : m.toNat < 256 := m.isLt
  rw [adcSum, onesComplement_toNat]
  omega

theorem signedSum_onesComplement :
    signedSum a (m ^^^ 0xFF#8) c = signed8 a - signed8 m - (1 - c.toNat) := by
  rw [signedSum, signed8_onesComplement]; omega

end

/-! ### Instructions that add to A -/

theorem FlagsKept.mono {s t : State} {written more : List Flag} (h : FlagsKept s t written) (sub : written ⊆ more) :
    FlagsKept s t more := fun f hf => h f fun hw => hf (sub hw)

section
variable (s : State) (i : Instr)

/-- Reading the operand leaves the registers. -/
@[simp] theorem State.pastOperand_a : (s.pastOperand i).a = s.a := rfl
@[simp] theorem State.pastOperand_x : (s.pastOperand i).x = s.x := rfl
@[simp] theorem State.pastOperand_y : (s.pastOperand i).y = s.y := rfl
@[simp] theorem State.pastOperand_sp : (s.pastOperand i).sp = s.sp := rfl

/-- The adder writes A and flags alone. -/
theorem State.addWithCarry_eq (m : Byte) :
    s.addWithCarry m =
      (s.setRegisters (BitVec.ofNat 8 (adcSum s.a m (s.flag .c))) s.x s.y s.sp).setP (s.addWithCarry m).p := rfl

/-- What an instruction leaves that adds the byte `addend` of its operand to A with the carry (R123). -/
theorem exec_addWithCarry (addend : Byte → Byte)
    (body : ∀ u : State, Op.body i.entry.op (s.resolved i).ea u =
      (u.readOperand (s.resolved i).ea).2.addWithCarry (addend (u.readOperand (s.resolved i).ea).1)) :
    ∃ t, exec i s = .next t ∧
      RegsAre t (BitVec.ofNat 8 (adcSum s.a (addend (s.operandByte i)) (s.flag .c))) s.x s.y s.sp ∧
      t.flag .c = decide (0xFF < adcSum s.a (addend (s.operandByte i)) (s.flag .c)) ∧
      t.flag .v = adcOverflow s.a (addend (s.operandByte i)) (s.flag .c) ∧ ZNof t t.a ∧ FlagsKept s t [.n, .v, .z, .c] ∧
      ReadFrame s t i := by
  have ends : exec i s = .next ((s.pastOperand i).addWithCarry (addend (s.operandByte i))) :=
    exec_of_reads s i (fun v u => u.addWithCarry (addend v)) body (fun _ _ _ => rfl)
  refine ⟨_, ends, ⟨rfl, rfl, rfl, rfl⟩, ?c, ?v, State.setZN_ZN _ _, ?kept, ?frame⟩
  case c => exact State.flag_addWithCarry _ _ .c
  case v => exact State.flag_addWithCarry _ _ .v
  case kept => exact (((s.pastOperand i).flagsKept_addWithCarry _).of_p rfl).mono (by decide)
  case frame => rw [State.addWithCarry_eq]; exact s.readFrame_pastOperand i _ _ _ _ _

/-- The operand of an immediate instruction is the byte in it (40_engine.md R95). -/
theorem State.operandByte_of_imm {i : Instr} (h : i.entry.mode = .imm) : s.operandByte i = loByte i.operand := by
  simp only [State.operandByte, State.resolved, h]; rfl

end

/-- Settles O40: ADC hands its operand to the adder, whose V is a comparison of signs. -/
theorem adcAddsWithCarry : Obligations.AdcAddsWithCarry := by
  unfold Obligations.AdcAddsWithCarry
  intro op8 op16 s
  refine forall_forms .adc (by simp only [List.map]; rfl) fun r h => ?_
  obtain ⟨t, next, ⟨a, others⟩, carry, overflow, rest⟩ := exec_addWithCarry s r.2 id fun _ => by rw [h]; rfl
  refine ⟨t, next, ⟨a, others⟩, carry, ?_, rest⟩
  rw [overflow, adcOverflow_eq_msb, a]; rfl

/-- Settles O41: SBC hands the ones' complement of its operand to the adder, whose sum is then 256 more than the difference. -/
theorem sbcSubtractsWithBorrow : Obligations.SbcSubtractsWithBorrow := by
  unfold Obligations.SbcSubtractsWithBorrow
  intro op8 op16 s
  refine forall_forms .sbc (by simp only [List.map]; rfl) fun r h => ?_
  have sum := adcSum_onesComplement s.a (s.operandByte r.2) (s.flag .c)
  obtain ⟨t, next, ⟨a, others⟩, carry, overflow, rest⟩ := exec_addWithCarry s r.2 (· ^^^ 0xFF#8) fun _ => by rw [h]; rfl
  refine ⟨t, next, ⟨a.trans ?result, others⟩, carry.trans ?carry, ?overflow, rest⟩
  case result =>
    apply BitVec.eq_of_toNat_eq
    rw [BitVec.toNat_ofNat, BitVec.toNat_ofInt]
    omega
  case carry => rw [decide_eq_decide]; omega
  case overflow =>
    rw [overflow, adcOverflow_eq_msb, a, onesComplement_msb]
    cases s.a.msb <;> cases (s.operandByte r.2).msb <;> rfl

/-- The rows of the immediate forms (30_encoding.md R77). -/
theorem table_adcImm : (table 0x69#8).op = .adc ∧ (table 0x69#8).mode = .imm := by decide +kernel
theorem table_sbcImm : (table 0xE9#8).op = .sbc ∧ (table 0xE9#8).mode = .imm := by decide +kernel

/-- V and A after an immediate instruction that adds to A are those of the signed sum. -/
theorem exec_addWithCarry_imm {s : State} {i : Instr} {m : Byte} (mode : i.entry.mode = .imm) (operand : loByte i.operand = m)
    (addend : Byte → Byte)
    (body : ∀ u : State, Op.body i.entry.op (s.resolved i).ea u =
      (u.readOperand (s.resolved i).ea).2.addWithCarry (addend (u.readOperand (s.resolved i).ea).1)) :
    ∃ t, exec i s = .next t ∧
      t.flag .v = decide (signedSum s.a (addend m) (s.flag .c) < -128 ∨ 127 < signedSum s.a (addend m) (s.flag .c)) ∧
      (t.flag .v = false → signed8 t.a = signedSum s.a (addend m) (s.flag .c)) := by
  obtain ⟨t, next, ⟨a, -⟩, -, v, -⟩ := exec_addWithCarry s i addend body
  rw [s.operandByte_of_imm mode, operand] at a v
  obtain ⟨overflow, result⟩ := adder_signed s.a (addend m) (s.flag .c)
  exact ⟨t, next, v.trans overflow, fun clear => a ▸ result (v.symm.trans clear)⟩

/-- Settles O42: V and A are those of the adder, which SBC gives -1 - m. -/
theorem overflowFlagIsSignedOverflow : Obligations.OverflowFlagIsSignedOverflow := by
  unfold Obligations.OverflowFlagIsSignedOverflow
  intro s m
  constructor
  · obtain ⟨op, mode⟩ : (Instr.adcImm m).entry.op = .adc ∧ (Instr.adcImm m).entry.mode = .imm := table_adcImm
    exact exec_addWithCarry_imm mode (loByte_zext16 m) id fun _ => by rw [op]; rfl
  · obtain ⟨op, mode⟩ : (Instr.sbcImm m).entry.op = .sbc ∧ (Instr.sbcImm m).entry.mode = .imm := table_sbcImm
    simp only [← signedSum_onesComplement]
    exact exec_addWithCarry_imm mode (loByte_zext16 m) (· ^^^ 0xFF#8) fun _ => by rw [op]; rfl

end Sys2Proof.Machine
end

section
/-! CMP, CPX and CPY (42_arithmetic.md R126 to R129). -/

namespace Sys2Proof.Machine

/-- Z and N of a comparison are those of the difference (R126). -/
theorem State.compare_ZN (s : State) (r m : Byte) : ZNof (s.compare r m) (r - m) := by
  have zero : r = m ↔ (r - m).toNat = 0 := by bv_omega
  constructor
  · rw [State.flag_compare, ← decide_eq_decide.mpr zero]; rfl
  · rw [State.flag_compare]; exact BitVec.msb_eq_decide (r - m)

/-- A comparison writes flags alone. -/
theorem State.compare_eq (s : State) (r m : Byte) :
    s.compare r m = (s.setRegisters s.a s.x s.y s.sp).setP (s.compare r m).p := rfl

/-- What a comparison of the register that holds `r` with the operand leaves: C, Z and N, past the operand. -/
theorem exec_compare_frame (s : State) (i : Instr) {r : Byte} (register : State → Byte)
    (body : ∀ u : State, Op.body i.entry.op (s.resolved i).ea u =
      (u.readOperand (s.resolved i).ea).2.compare (register (u.readOperand (s.resolved i).ea).2)
        (u.readOperand (s.resolved i).ea).1)
    (ticks : ∀ (u : State) (n : Nat), register (u.addTicks n) = register u) (holds : register (s.pastOperand i) = r) :
    ∃ t, exec i s = .next t ∧ RegsAre t s.a s.x s.y s.sp ∧ t.flag .c = decide ((s.operandByte i).toNat ≤ r.toNat) ∧
      ZNof t (r - s.operandByte i) ∧ FlagsKept s t [.n, .z, .c] ∧ ReadFrame s t i := by
  have ends : exec i s = .next ((s.pastOperand i).compare r (s.operandByte i)) := by
    rw [← holds]
    exact exec_of_reads s i (fun v u => u.compare (register u) v) body (fun v u n => by rw [ticks]; rfl)
  have past (m : Byte) : RegsAre ((s.pastOperand i).compare r m) s.a s.x s.y s.sp := by simp [RegsAre]
  refine ⟨_, ends, past _, ?c, State.compare_ZN _ r _, ?kept, ?frame⟩
  case c => exact State.flag_compare _ r _ .c
  case kept => exact (((s.pastOperand i).flagsKept_compare r _).of_p rfl).mono (by decide)
  case frame => rw [State.compare_eq]; exact s.readFrame_pastOperand i _ _ _ _ _

/-- Settles O43: the three comparisons differ in their register. -/
theorem comparesSetFlagsFromTheDifference : Obligations.ComparesSetFlagsFromTheDifference := by
  unfold Obligations.ComparesSetFlagsFromTheDifference
  intro op8 op16 s
  refine ⟨?cmp, ?cpx, ?cpy⟩
  case cmp =>
    exact forall_forms .cmp (by simp only [List.map]; rfl) fun r h =>
      exec_compare_frame s r.2 State.a (fun _ => by rw [h]; rfl) (fun _ _ => rfl) (s.pastOperand_a r.2)
  case cpx =>
    exact forall_forms .cpx (by simp only [List.map]; rfl) fun r h =>
      exec_compare_frame s r.2 State.x (fun _ => by rw [h]; rfl) (fun _ _ => rfl) (s.pastOperand_x r.2)
  case cpy =>
    exact forall_forms .cpy (by simp only [List.map]; rfl) fun r h =>
      exec_compare_frame s r.2 State.y (fun _ => by rw [h]; rfl) (fun _ _ => rfl) (s.pastOperand_y r.2)

end Sys2Proof.Machine
end

section
/-! INC and DEC, in memory and in the index registers (42_arithmetic.md R130 to R135). -/

namespace Sys2Proof.Machine

/-- Adding one modulo 256. -/
theorem ofNat_toNat_add_one (v : Byte) : BitVec.ofNat 8 (v.toNat + 1) = v + 1#8 := by
  bv_omega

/-- Adding 255 modulo 256 is taking one away. -/
theorem ofNat_toNat_add_255 (v : Byte) : BitVec.ofNat 8 (v.toNat + 255) = v - 1#8 := by
  bv_omega

/-! ### Reading a byte and writing it back -/

/-- Setting flags after a store keeps the store's frame. -/
theorem StoreFrame.setFlag {s u t : State} {i : Instr} {v : Byte} (h : StoreFrame s u t i v) (f : Flag) (b : Bool) :
    StoreFrame s u (t.setFlag f b) i v := h

theorem StoreFrame.setZN {s u t : State} {i : Instr} {v : Byte} (h : StoreFrame s u t i v) (w : Byte) :
    StoreFrame s u (t.setZN w) i v := (h.setFlag _ _).setFlag _ _

section
variable (s : State) (i : Instr) {a : Addr} (v : Byte)

/-- What an instruction leaves that reads its operand and writes `v` at `a`, and writes no register and no flag. -/
def State.pastStore (a : Addr) : State := (((s.afterOperand i).busWrite a v).setPc (s.nextPc i)).addTicks (s.cost i)

theorem State.regsAre_pastStore (a : Addr) : RegsAre (s.pastStore i v a) s.a s.x s.y s.sp := by
  have stored : RegsAre ((s.afterOperand i).busWrite a v) s.a s.x s.y s.sp := by
    rw [s.afterOperand_eq i]
    exact ⟨State.busWrite_a _ a v, State.busWrite_x _ a v, State.busWrite_y _ a v, State.busWrite_sp _ a v⟩
  exact stored

theorem State.pastStore_p (a : Addr) : (s.pastStore i v a).p = s.p := by
  have stored : ((s.afterOperand i).busWrite a v).p = s.p := by
    rw [State.busWrite_p, s.afterOperand_eq i]; rfl
  exact stored

theorem State.storeFrame_pastStore (ea : (s.resolved i).ea = .mem a) :
    StoreFrame s (s.afterOperand i) (s.pastStore i v a) i v :=
  s.storeFrame_busWrite i ea (by rw [s.afterOperand_eq i]; exact s.inputsKept_setPpu _) (by rw [s.afterOperand_eq i]; rfl) v

/-- An instruction that writes `v` where it has read its operand, and then flags by `f`, ends in `f` of the state past the
store. -/
theorem exec_of_modifies (ea : (s.resolved i).ea = .mem a) (f : State → State)
    (body : ∀ u : State, (u.readOperand (s.resolved i).ea).1 = s.operandByte i → u.p = s.p →
      Op.body i.entry.op (s.resolved i).ea u =
        f ((u.readOperand (s.resolved i).ea).2.writeOperand (s.resolved i).ea v))
    (ticks : ∀ (u : State) (n : Nat), (f u).addTicks n = f (u.addTicks n)) :
    exec i s = .next (f (s.pastStore i v a)) := by
  have read : ((s.resolved i).state.setPc (s.nextPc i)).readOperand (s.resolved i).ea =
      (s.operandByte i, (s.afterOperand i).setPc (s.nextPc i)) := State.readOperand_setPc _ _ _
  have status : ((s.resolved i).state.setPc (s.nextPc i)).p = s.p := s.resolve_p _ _
  have write : Op.body i.entry.op (s.resolved i).ea ((s.resolved i).state.setPc (s.nextPc i)) =
      f (((s.afterOperand i).busWrite a v).setPc (s.nextPc i)) := by
    rw [body _ (by rw [read]) status, read, ea, ← State.busWrite_setPc]; rfl
  calc
    _ = .next ((Op.body i.entry.op (s.resolved i).ea ((s.resolved i).state.setPc (s.nextPc i))).addTicks (s.cost i)) :=
      exec_eq_after i s
    _ = _ := by rw [write, ticks]; rfl

end

/-- INC or DEC: the operand's byte, changed by `change`, is stored where it was read, and Z and N are set from it. -/
theorem exec_change_frame {i : Instr} (s : State) {op : Op} (h : i.entry.op = op) (modify : op ∈ [Op.inc, .dec])
    (change : Byte → Byte)
    (body : ∀ (ea : EA) (u : State), Op.body op ea u =
      ((u.readOperand ea).2.writeOperand ea (change (u.readOperand ea).1)).setZN (change (u.readOperand ea).1)) :
    ∃ t, exec i s = .next t ∧ RegsAre t s.a s.x s.y s.sp ∧ ZNof t (change (s.operandByte i)) ∧ FlagsKept s t [.z, .n] ∧
      StoreFrame s (s.afterOperand i) t i (change (s.operandByte i)) := by
  subst h
  obtain ⟨⟨a, ea⟩, -⟩ := s.resolved_of_store (List.mem_append_right [Op.sta, .stx, .sty] modify)
  have ends : exec i s =
      .next ((s.pastStore i (change (s.operandByte i)) a).setZN (change (s.operandByte i))) :=
    exec_of_modifies s i _ ea (·.setZN (change (s.operandByte i))) (fun u read _ => by rw [body, read]) fun _ _ => rfl
  exact ⟨_, ends, s.regsAre_pastStore i _ a, State.setZN_ZN _ _, (State.flagsKept_setZN _ _).of_p (s.pastStore_p i _ a),
    (s.storeFrame_pastStore i _ ea).setZN _⟩

/-- Settles O44: the two differ in the byte they store. -/
theorem incDecChangeMemoryByOne : Obligations.IncDecChangeMemoryByOne := by
  unfold Obligations.IncDecChangeMemoryByOne
  intro op8 op16 s
  simp only [ofNat_toNat_add_one, ofNat_toNat_add_255]
  constructor
  · exact forall_forms .inc (by simp only [List.map]; rfl) fun _ h =>
      exec_change_frame s h (by decide) (· + 1#8) fun _ _ => rfl
  · exact forall_forms .dec (by simp only [List.map]; rfl) fun _ h =>
      exec_change_frame s h (by decide) (· - 1#8) fun _ _ => rfl

/-! ### The index registers -/

/-- An instruction that sets X and Y to `x` and `y`, past its operand, and Z and N from the one that its mnemonic names. -/
theorem exec_index_frame (s : State) (i : Instr) (f : State → State)
    (body : ∀ u : State, Op.body i.entry.op (s.resolved i).ea u = f (u.readOperand (s.resolved i).ea).2)
    (ticks : ∀ (u : State) (n : Nat), (f u).addTicks n = f (u.addTicks n)) {x y v : Byte}
    (ends : f (s.pastOperand i) = ((s.pastOperand i).setRegisters s.a x y s.sp).setZN v)
    (named : (if i = .inx ∨ i = .dex then x else y) = v) :
    ∃ t, exec i s = .next t ∧ RegsAre t s.a x y s.sp ∧ ZNof t (if i = .inx ∨ i = .dex then t.x else t.y) ∧
      FlagsKept s t [.z, .n] ∧ ReadFrame s t i := by
  obtain ⟨t, next, ⟨a, hx, hy, sp⟩, zn, rest⟩ := exec_setZN_frame s i (fun _ => f) body (fun _ => ticks) ends
  refine ⟨t, next, ⟨a, hx, hy, sp⟩, ?_, rest⟩
  rw [hx, hy, named]; exact zn

/-- Settles O45: the four are of implied mode, so nothing is read and only a register and flags are written. -/
theorem indexRegistersChangeByOne : Obligations.IndexRegistersChangeByOne := by
  unfold Obligations.IndexRegistersChangeByOne
  intro s
  simp only [ofNat_toNat_add_one, ofNat_toNat_add_255, List.forall_mem_cons, List.not_mem_nil, false_implies, implies_true,
    and_true]
  refine ⟨⟨rfl, ?inx⟩, ⟨rfl, ?dex⟩, ⟨rfl, ?iny⟩, ⟨rfl, ?dey⟩⟩
  case inx => exact exec_index_frame s .inx (·.opInx .implied) (fun _ => rfl) (fun _ _ => rfl) rfl (by simp)
  case dex => exact exec_index_frame s .dex (·.opDex .implied) (fun _ => rfl) (fun _ _ => rfl) rfl (by simp)
  case iny => exact exec_index_frame s .iny (·.opIny .implied) (fun _ => rfl) (fun _ _ => rfl) rfl (by simp)
  case dey => exact exec_index_frame s .dey (·.opDey .implied) (fun _ => rfl) (fun _ _ => rfl) rfl (by simp)

end Sys2Proof.Machine
end

section
/-! AND, ORA, EOR and BIT (43_logic_shift.md R136 to R139). -/

namespace Sys2Proof.Machine

section
variable (s : State) (i : Instr)

/-- What an instruction leaves that combines A with its operand by `f`, which is `onBits` bit by bit. -/
theorem exec_bitwise_frame (f : Byte → Byte → Byte) (onBits : Bool → Bool → Bool)
    (bitwise : ∀ (v m : Byte) (k : Nat), (f v m).getLsbD k = onBits (v.getLsbD k) (m.getLsbD k))
    (body : ∀ u : State, Op.body i.entry.op (s.resolved i).ea u =
      let r := u.readOperand (s.resolved i).ea
      (r.2.setA (f r.2.a r.1)).setZN (f r.2.a r.1)) :
    ∃ t, exec i s = .next t ∧ RegsAre t t.a s.x s.y s.sp ∧
      (∀ k, t.a.getLsbD k = onBits (s.a.getLsbD k) ((s.operandByte i).getLsbD k)) ∧ ZNof t t.a ∧ FlagsKept s t [.z, .n] ∧
      ReadFrame s t i := by
  obtain ⟨t, next, ⟨a, others⟩, zn, rest⟩ :=
    exec_setZN_frame s i (fun m u => (u.setA (f u.a m)).setZN (f u.a m)) body (fun _ _ _ => rfl) rfl
  exact ⟨t, next, ⟨rfl, others⟩, fun k => a ▸ bitwise s.a _ k, a ▸ zn, rest⟩

/-- BIT writes flags alone. -/
theorem State.testBits_eq (m : Byte) :
    s.testBits m = (s.setRegisters s.a s.x s.y s.sp).setP (s.testBits m).p := rfl

end

/-- `A & m` is zero when no bit is set in both (R139). -/
theorem and_eq_zero_iff_no_common_bit (v m : Byte) :
    v &&& m = 0#8 ↔ ∀ k, ¬ (v.getLsbD k = true ∧ m.getLsbD k = true) := by
  have common (k : Nat) : (v &&& m).getLsbD k = true ↔ v.getLsbD k = true ∧ m.getLsbD k = true := by
    rw [BitVec.getLsbD_and, Bool.and_eq_true]
  constructor
  · intro zero k
    rw [← common, zero, BitVec.getLsbD_zero]
    decide
  · intro none
    refine BitVec.eq_of_getLsbD_eq fun k _ => ?_
    rw [BitVec.getLsbD_zero, Bool.eq_false_iff, ne_eq, common]
    exact none k

/-- Settles O46: the three operations differ in what they do to a bit of A and a bit of the operand. -/
theorem logicalOperationsWorkBitByBit : Obligations.LogicalOperationsWorkBitByBit := by
  unfold Obligations.LogicalOperationsWorkBitByBit
  intro op8 op16 s
  refine ⟨?and, ?ora, ?eor⟩
  case and =>
    exact forall_forms .and (by simp only [List.map]; rfl) fun ⟨_, i⟩ h =>
      exec_bitwise_frame s i (· &&& ·) and (fun _ _ _ => BitVec.getLsbD_and) fun _ => by rw [h]; rfl
  case ora =>
    exact forall_forms .ora (by simp only [List.map]; rfl) fun ⟨_, i⟩ h =>
      exec_bitwise_frame s i (· ||| ·) or (fun _ _ _ => BitVec.getLsbD_or) fun _ => by rw [h]; rfl
  case eor =>
    exact forall_forms .eor (by simp only [List.map]; rfl) fun ⟨_, i⟩ h =>
      exec_bitwise_frame s i (· ^^^ ·) xor (fun _ _ _ => BitVec.getLsbD_xor) fun _ => by rw [h]; rfl

/-- Settles O47: BIT takes its flags from the operand and from A past the operand's read, which is A before it. -/
theorem bitTestsWithoutWriting : Obligations.BitTestsWithoutWriting := by
  unfold Obligations.BitTestsWithoutWriting
  intro op8 op16 s
  refine forall_forms .bit (by simp only [List.map]; rfl) fun ⟨_, i⟩ h => ?_
  have ends : exec i s = .next ((s.pastOperand i).testBits (s.operandByte i)) :=
    exec_of_reads s i (fun m u => u.testBits m) (fun _ => by rw [h]; rfl) (fun _ _ _ => rfl)
  have past (m : Byte) : RegsAre ((s.pastOperand i).testBits m) s.a s.x s.y s.sp := by simp [RegsAre]
  refine ⟨_, ends, past _, ?z, State.flag_testBits _ _ .n, State.flag_testBits _ _ .v, ?kept, ?frame⟩
  case z => simpa [State.flag_testBits] using and_eq_zero_iff_no_common_bit s.a (s.operandByte i)
  case kept => exact (((s.pastOperand i).flagsKept_testBits _).of_p rfl).mono (by decide)
  case frame => rw [State.testBits_eq]; exact s.readFrame_pastOperand i _ _ _ _ _

end Sys2Proof.Machine
end

section
/-! The shifts and rotates, of A and of memory (43_logic_shift.md R140 to R144). -/

namespace Sys2Proof.Machine

/-! ### The four functions as numbers -/

/-- Moving the carry into a vacated bit adds the weight of that bit. -/
theorem or_carry_eq_add (v : Byte) (c : Bool) {bit : Nat} (vacated : v.getLsbD bit = false) :
    v ||| (if c then BitVec.twoPow 8 bit else 0#8) = v + if c then BitVec.twoPow 8 bit else 0#8 := by
  cases c with
  | false => exact BitVec.or_zero.trans (BitVec.add_zero v).symm
  | true =>
    have apart : v &&& BitVec.twoPow 8 bit = 0#8 := by rw [BitVec.and_twoPow, vacated]; rfl
    exact (BitVec.add_eq_or_of_and_eq_zero v _ apart).symm

theorem getLsbD_zero_eq_decide (v : Byte) : v.getLsbD 0 = decide (v.toNat % 2 = 1) := by
  rw [BitVec.getLsbD, Nat.testBit_zero]

/-- The result of `shifted` as a byte, and the new carry. -/
def shiftedByte (op : Op) (v : Byte) (c : Bool) : Byte × Bool :=
  (BitVec.ofNat 8 (shifted op v c).1, (shifted op v c).2)

theorem aslFn_eq_shiftedByte : aslFn = shiftedByte .asl := by
  funext v c
  refine Prod.ext ?_ (BitVec.msb_eq_decide v)
  show v <<< 1 = BitVec.ofNat 8 (2 * v.toNat % 256)
  bv_omega

theorem lsrFn_eq_shiftedByte : lsrFn = shiftedByte .lsr := by
  funext v c
  refine Prod.ext ?_ (getLsbD_zero_eq_decide v)
  show v >>> 1 = BitVec.ofNat 8 (v.toNat / 2)
  bv_omega

theorem rolFn_eq_shiftedByte : rolFn = shiftedByte .rol := by
  funext v c
  have vacated : (v <<< 1).getLsbD 0 = false := by simp
  refine Prod.ext ((or_carry_eq_add _ c vacated).trans ?_) (BitVec.msb_eq_decide v)
  show _ = BitVec.ofNat 8 ((2 * v.toNat + c.toNat) % 256)
  cases c <;> simp <;> bv_omega

theorem rorFn_eq_shiftedByte : rorFn = shiftedByte .ror := by
  funext v c
  have vacated : (v >>> 1).getLsbD 7 = false := by simp
  refine Prod.ext ((or_carry_eq_add _ c vacated).trans ?_) (getLsbD_zero_eq_decide v)
  show _ = BitVec.ofNat 8 (v.toNat / 2 + 128 * c.toNat)
  cases c <;> simp <;> bv_omega

/-- Each of the four shifts by the byte and the carry of `shifted` (R141 to R144). -/
theorem Op.body_shift {op : Op} (shift : op ∈ [Op.asl, .lsr, .rol, .ror]) (ea : EA) (s : State) :
    Op.body op ea s = s.shift (shiftedByte op) ea := by
  cases op with
  | asl => exact congrArg (s.shift · ea) aslFn_eq_shiftedByte
  | lsr => exact congrArg (s.shift · ea) lsrFn_eq_shiftedByte
  | rol => exact congrArg (s.shift · ea) rolFn_eq_shiftedByte
  | ror => exact congrArg (s.shift · ea) rorFn_eq_shiftedByte
  | _ => simp at shift

/-! ### Setting the flags -/

/-- Set C, then Z and N from `v`, as every shift does in the end (R140). -/
def State.setCarryZN (s : State) (c : Bool) (v : Byte) : State := (s.setFlag .c c).setZN v

section
variable (s : State) (c : Bool) (v : Byte)

theorem State.setCarryZN_eq : s.setCarryZN c v = s.setP (s.setCarryZN c v).p := rfl

theorem State.setCarryZN_flags :
    (s.setCarryZN c v).flag .c = c ∧ ZNof (s.setCarryZN c v) v ∧ FlagsKept s (s.setCarryZN c v) [.c, .z, .n] := by
  refine ⟨by simp [State.setCarryZN, State.flag_setZN], State.setZN_ZN _ v, fun g hg => ?_⟩
  cases g <;> simp at hg <;> simp [State.setCarryZN, State.flag_setZN]

variable {s}

theorem RegsAre.setCarryZN {a x y sp : Byte} (h : RegsAre s a x y sp) : RegsAre (s.setCarryZN c v) a x y sp := h

theorem StoreFrame.setCarryZN {s₀ u : State} {i : Instr} {w : Byte} (h : StoreFrame s₀ u s i w) :
    StoreFrame s₀ u (s.setCarryZN c v) i w := (h.setFlag .c c).setZN v

end

/-! ### Instructions -/

section
variable (s : State) {i : Instr}

/-- Past the operand, the registers are written, C is set to `c`, and Z and N from `v`. -/
theorem State.setRegisters_setCarryZN (i : Instr) (a x y sp : Byte) (c : Bool) (v : Byte) :
    let t := ((s.pastOperand i).setRegisters a x y sp).setCarryZN c v
    RegsAre t a x y sp ∧ t.flag .c = c ∧ ZNof t v ∧ FlagsKept s t [.c, .z, .n] ∧ ReadFrame s t i := by
  have status : ((s.pastOperand i).setRegisters a x y sp).p = s.p := rfl
  obtain ⟨carry, zn, kept⟩ := ((s.pastOperand i).setRegisters a x y sp).setCarryZN_flags c v
  refine ⟨⟨rfl, rfl, rfl, rfl⟩, carry, zn, kept.of_p status, ?_⟩
  rw [State.setCarryZN_eq]
  exact s.readFrame_pastOperand i a x y sp _

/-- Shifting A writes A and flags alone. -/
theorem State.shift_implied (f : Byte → Bool → Byte × Bool) :
    s.shift f .implied =
      (s.setRegisters (f s.a (s.flag .c)).1 s.x s.y s.sp).setCarryZN (f s.a (s.flag .c)).2 (f s.a (s.flag .c)).1 := rfl

/-- What a shift of A leaves. -/
theorem exec_shift_acc_frame {op : Op} (h : i.entry.op = op) (shift : op ∈ [Op.asl, .lsr, .rol, .ror])
    (sentinel : (s.resolved i).ea = .implied) :
    let q := shifted op s.a (s.flag .c)
    ∃ t, exec i s = .next t ∧ RegsAre t (BitVec.ofNat 8 q.1) s.x s.y s.sp ∧ t.flag .c = q.2 ∧
      ZNof t (BitVec.ofNat 8 q.1) ∧ FlagsKept s t [.c, .z, .n] ∧ ReadFrame s t i := by
  intro q
  have carryIn : (s.pastOperand i).flag .c = s.flag .c := rfl
  have shiftA : exec i s = .next ((s.pastOperand i).shift (shiftedByte op) .implied) :=
    exec_of_reads s i (fun _ u => u.shift (shiftedByte op) .implied) (fun _ => by rw [h, Op.body_shift shift, sentinel]; rfl)
      (fun _ _ _ => rfl)
  rw [State.shift_implied, carryIn] at shiftA
  exact ⟨_, shiftA, s.setRegisters_setCarryZN i _ _ _ _ _ _⟩

/-- A mode with an operand in memory resolves to an address (40_engine.md R92). -/
theorem State.resolved_of_memory_mode (memory : i.entry.mode ∉ [Mode.imp, .acc, .imm]) : ∃ a, (s.resolved i).ea = .mem a := by
  unfold State.resolved
  cases mode : i.entry.mode with
  | imp | acc | imm => simp [mode] at memory
  | _ => exact ⟨_, rfl⟩

/-- A shift of memory reads the carry, stores its result where it has read its operand, and then writes flags. -/
theorem exec_shift_memory_frame (shift : i.entry.op ∈ [Op.asl, .lsr, .rol, .ror])
    (memory : i.entry.mode ∉ [Mode.imp, .acc, .imm]) :
    let q := shifted i.entry.op (s.operandByte i) (s.flag .c)
    ∃ t, exec i s = .next t ∧ RegsAre t s.a s.x s.y s.sp ∧ t.flag .c = q.2 ∧ ZNof t (BitVec.ofNat 8 q.1) ∧
      FlagsKept s t [.c, .z, .n] ∧ StoreFrame s (s.afterOperand i) t i (BitVec.ofNat 8 q.1) := by
  intro q
  obtain ⟨a, ea⟩ := s.resolved_of_memory_mode memory
  have ends : exec i s = .next ((s.pastStore i (BitVec.ofNat 8 q.1) a).setCarryZN q.2 (BitVec.ofNat 8 q.1)) := by
    refine exec_of_modifies s i _ ea (·.setCarryZN q.2 (BitVec.ofNat 8 q.1)) (fun u read status => ?_) fun _ _ => rfl
    have carryIn : (u.readOperand (s.resolved i).ea).2.flag .c = s.flag .c := by
      simp only [State.flag, State.readOperand_p, status]
    rw [Op.body_shift shift]
    simp only [State.shift, read, carryIn]
    rfl
  obtain ⟨carry, zn, kept⟩ := State.setCarryZN_flags (s.pastStore i (BitVec.ofNat 8 q.1) a) q.2 (BitVec.ofNat 8 q.1)
  exact ⟨_, ends, (s.regsAre_pastStore i _ a).setCarryZN _ _, carry, zn, kept.of_p (s.pastStore_p i _ a),
    (s.storeFrame_pastStore i _ ea).setCarryZN _ _⟩

end

/-- What holds of every instruction whose row of the table satisfies `row` holds of a list of such forms, each with its
opcode. -/
theorem forall_rows {rows : List (Byte × Instr)} {row : Entry → Prop} {P : Byte × Instr → Prop}
    (opcodes : rows.map (fun r => r.2.opcode) = rows.map Prod.fst)
    (tableRows : ∀ opcode ∈ rows.map Prod.fst, row (table opcode))
    (holds : ∀ r : Byte × Instr, row r.2.entry → P r) : ∀ r ∈ rows, r.2.opcode = r.1 ∧ P r := by
  intro r hr
  have opcode : r.2.opcode = r.1 := List.map_inj_left.mp opcodes r hr
  have entry : r.2.entry = table r.1 := congrArg table opcode
  exact ⟨opcode, holds r (entry ▸ tableRows r.1 (List.mem_map_of_mem hr))⟩

/-- Settles O48: a form of mode ACC resolves to the sentinel, every other form to an address. -/
theorem shiftsAndRotates : Obligations.ShiftsAndRotates := by
  unfold Obligations.ShiftsAndRotates
  intro op8 op16 s
  constructor
  · simp only [List.forall_mem_cons, List.not_mem_nil, false_implies, implies_true, and_true]
    refine ⟨⟨rfl, ?asl⟩, ⟨rfl, ?lsr⟩, ⟨rfl, ?rol⟩, ⟨rfl, ?ror⟩⟩
    case asl => exact exec_shift_acc_frame s rfl (by decide) rfl
    case lsr => exact exec_shift_acc_frame s rfl (by decide) rfl
    case rol => exact exec_shift_acc_frame s rfl (by decide) rfl
    case ror => exact exec_shift_acc_frame s rfl (by decide) rfl
  · exact forall_rows (row := fun e => e.op ∈ [Op.asl, .lsr, .rol, .ror] ∧ e.mode ∉ [Mode.imp, .acc, .imm])
      (by simp only [List.map]; rfl) (by simp only [List.map]; decide +kernel) fun r ⟨shift, memory⟩ =>
        exec_shift_memory_frame s shift memory

end Sys2Proof.Machine
end

section
/-! Branches, calls, returns and BRK (44_control_flow.md R145 to R158), and RTI behind an entry (60_exceptions.md R185, R186). -/

namespace Sys2Proof.Machine

/-! ### Branches -/

/-- Two words are of one page exactly when their high bytes agree (70_reset_and_hazards.md R207). -/
theorem hiByte_eq_iff (a b : Addr) : hiByte a = hiByte b ↔ a.toNat / 256 = b.toNat / 256 := by
  rw [← BitVec.toNat_inj, hiByte_toNat, hiByte_toNat]

section
variable (s : State)

theorem State.branch_taken (target : Addr) :
    s.branch true (.mem target) = (s.setPc target).addTicks (if s.pc.toNat / 256 = target.toNat / 256 then 1 else 2) := by
  have page : (1 + if hiByte s.pc ≠ hiByte target then 1 else 0) = if s.pc.toNat / 256 = target.toNat / 256 then 1 else 2 := by
    simp only [ne_eq, hiByte_eq_iff, ite_not]; split <;> rfl
  exact congrArg (s.setPc target).addTicks page

theorem State.branch_not_taken (ea : EA) : s.branch false ea = s := rfl

/-- Both outcomes of an instruction that branches when the flag `f` has the value `v`. -/
theorem exec_branch {i : Instr} {op8 : Byte} (f : Flag) (v : Bool)
    (meaning : exec i s = instruction .rel 2 false (zext16 op8) (fun ea u => u.branch (u.flag f == v) ea) s) :
    let target := BitVec.ofInt 16 ((s.pc.toNat : Int) + 2 + signed8 op8)
    (s.flag f = v → exec i s = .next { s with
      pc := target, tick := s.tick + if (s.pc + 2#16).toNat / 256 = target.toNat / 256 then 3 else 4 }) ∧
    (¬ s.flag f = v → exec i s = .next { s with pc := s.pc + 2#16, tick := s.tick + 2 }) := by
  intro target
  have address : s.pc + 2#16 + sext16 (loByte (zext16 op8)) = target := by
    rw [loByte_zext16, relativeTarget_eq_ofInt]
  have branches : exec i s = .next (((s.setPc (s.pc + 2#16)).branch (s.flag f == v) (.mem target)).addTicks 2) := by
    rw [meaning, ← address]; rfl
  rw [branches]
  constructor
  · intro taken
    rw [beq_iff_eq.mpr taken, State.branch_taken, State.setPc_pc]
    split <;> rfl
  · intro passed
    rw [beq_eq_false_iff_ne.mpr passed, State.branch_not_taken]; rfl

/-! ### Where PC stands does not matter to the stack -/

variable (pc : Addr)

theorem State.pushWord_setPc (w : Addr) : (s.setPc pc).pushWord w = (s.pushWord w).setPc pc := by
  rw [State.pushWord_eq, State.pushWord_eq]; rfl

theorem State.pullWord_setPc : (s.setPc pc).pullWord = (s.pullWord.1, s.pullWord.2.setPc pc) := by
  rw [State.pullWord_eq, State.pullWord_eq]; rfl

theorem State.returnFromInterrupt_setPc : (s.setPc pc).returnFromInterrupt = s.returnFromInterrupt := by
  rw [State.returnFromInterrupt_eq, State.returnFromInterrupt_eq]; rfl

theorem State.enterVia_setPc (ret : Addr) (pushed : Byte) {vector : Addr} (h : 0x4018 ≤ vector.toNat)
    (h' : vector.toNat < 0xFFFF) : (s.setPc pc).enterVia ret pushed vector = s.enterVia ret pushed vector := by
  rw [State.enterVia_eq _ ret pushed h h', State.enterVia_eq _ ret pushed h h', State.pushWord_setPc, State.push_eq, State.push_eq]
  rfl

/-! ### Calls and returns -/

/-- What JSR leaves: the address of its own last byte pushed (90_conflicts.md C8), and PC at the operand. -/
theorem exec_jsr (op16 : Addr) :
    exec (.jsr op16) s = .next (((s.pushWord (s.pc + 2#16)).setPc op16).addTicks 6) := by
  have last : s.pc + 3#16 - 1#16 = s.pc + 2#16 := by bv_omega
  calc
    exec (.jsr op16) s = .next ((((s.setPc (s.pc + 3#16)).pushWord (s.pc + 3#16 - 1#16)).setPc op16).addTicks 6) := rfl
    _ = _ := by rw [last, State.pushWord_setPc]; rfl

/-- What RTS leaves: PC past the pulled word. -/
theorem exec_rts : exec .rts s = .next ((s.pullWord.2.setPc (s.pullWord.1 + 1#16)).addTicks 6) := by
  calc
    exec .rts s = .next (((s.setPc (s.pc + 1#16)).pullWord.2.setPc ((s.setPc (s.pc + 1#16)).pullWord.1 + 1#16)).addTicks 6) :=
      rfl
    _ = _ := by rw [State.pullWord_setPc]; rfl

theorem State.pullWord_sp : s.pullWord.2.sp = s.sp + 2#8 := by
  rw [State.pullWord_eq]; exact BitVec.add_assoc s.sp 1#8 1#8

variable {s} in
/-- A pull of a word depends on SP and on the two bytes that stand there. -/
theorem State.pullWord_congr {t : State} (sp : t.sp = s.sp) (low : t.peek (stackAddr s.sp) = s.peek (stackAddr s.sp))
    (high : t.peek (stackAddr (s.sp + 1#8)) = s.peek (stackAddr (s.sp + 1#8))) :
    t.pullWord.1 = s.pullWord.1 ∧ t.pullWord.2.sp = s.pullWord.2.sp := by
  constructor
  · rw [State.pullWord_eq_peek, State.pullWord_eq_peek, sp, low, high]
  · rw [State.pullWord_sp, State.pullWord_sp, sp]

/-! ### Entries and RTI -/

section
variable (ret : Addr) (pushed : Byte) {vector : Addr} (h : 0x4018 ≤ vector.toNat) (h' : vector.toNat < 0xFFFF)
include h h'

/-- An entry pushes the return address, high byte first, and the status byte (60_exceptions.md R180). -/
theorem State.pushed_enterVia : Pushed s (s.enterVia ret pushed vector) [hiByte ret, loByte ret, pushed] := by
  rw [s.enterVia_eq ret pushed h h']
  exact (s.pushed_pushWord ret).push pushed (by simp)

theorem State.registers_enterVia :
    let t := s.enterVia ret pushed vector
    t.a = s.a ∧ t.x = s.x ∧ t.y = s.y ∧ t.p = s.p ||| 0x04#8 ∧
      t.pc = wordOf (s.cart.read vector) (s.cart.read (vector + 1#16)) := by
  rw [s.enterVia_eq ret pushed h h']
  simp [State.setFlag, withFlag_i_true]

end

/-- What BRK leaves: the byte after the opcode is the one returned to, and the pushed P has bit 4 set. -/
theorem exec_brk : exec .brk s = .next ((s.enterVia (s.pc + 1#16) (s.p ||| 0x10#8) 0xFFFE#16).addTicks 7) := by
  rw [← s.enterVia_setPc (s.pc + 1#16) _ _ (by decide) (by decide)]
  rfl

theorem exec_rti : exec .rti s = .next (s.returnFromInterrupt.addTicks 6) := by
  rw [← s.returnFromInterrupt_setPc (s.pc + 1#16)]
  rfl

/-- RTI pulls three bytes, P from the lowest address (R158). -/
theorem State.returnFromInterrupt_eq_peek :
    s.returnFromInterrupt = { s with
      p := s.peek (stackAddr s.sp), sp := s.sp + 3#8,
      pc := wordOf (s.peek (stackAddr (s.sp + 1#8))) (s.peek (stackAddr (s.sp + 2#8))) } := by
  have two : s.sp + 1#8 + 1#8 = s.sp + 2#8 := BitVec.add_assoc s.sp 1#8 1#8
  have three : s.sp + 2#8 + 1#8 = s.sp + 3#8 := BitVec.add_assoc s.sp 2#8 1#8
  simp only [State.returnFromInterrupt_eq, State.peek, route_stackAddr, two, three]

variable {s} in
/-- RTI takes back what an entry has pushed. -/
theorem State.returnFromInterrupt_of_pushed {t : State} {ret : Addr} {p : Byte}
    (h : Pushed s t [hiByte ret, loByte ret, p]) : t.returnFromInterrupt = { t with p := p, sp := s.sp, pc := ret } := by
  obtain ⟨sp, -, -, stands, -⟩ := h
  have sp0 : t.sp = s.sp - 3#8 := sp
  have sp1 : t.sp + 1#8 = s.sp - 2#8 := by rw [sp0]; bv_omega
  have sp2 : t.sp + 2#8 = s.sp - 1#8 := by rw [sp0]; bv_omega
  have sp3 : t.sp + 3#8 = s.sp := by rw [sp0]; bv_omega
  have hi : t.peek (stackAddr (s.sp - 1#8)) = hiByte ret := stands 0 (by simp)
  have lo : t.peek (stackAddr (s.sp - 2#8)) = loByte ret := stands 1 (by simp)
  have status : t.peek (stackAddr (s.sp - 3#8)) = p := stands 2 (by simp)
  rw [State.returnFromInterrupt_eq_peek, sp1, sp2, sp3, sp0, hi, lo, status, wordOf_lo_hi]

/-- RTI straight after an entry resumes at the address the entry has pushed, under the status it has pushed. -/
theorem exec_rti_enterVia (ret : Addr) (pushed : Byte) {vector : Addr} (h : 0x4018 ≤ vector.toNat) (h' : vector.toNat < 0xFFFF) :
    ∃ u, exec .rti ((s.enterVia ret pushed vector).addTicks 7) = .next u ∧ u.pc = ret ∧ u.p = pushed ∧
      RegsAre u s.a s.x s.y s.sp := by
  obtain ⟨a, x, y, -⟩ := s.registers_enterVia ret pushed h h'
  have entered : Pushed s ((s.enterVia ret pushed vector).addTicks 7) [hiByte ret, loByte ret, pushed] :=
    s.pushed_enterVia ret pushed h h'
  refine ⟨_, exec_rti _, ?_⟩
  rw [State.returnFromInterrupt_of_pushed entered]
  exact ⟨rfl, rfl, a, x, y, rfl⟩

end

/-- Settles O49: each mnemonic is the branch on one flag and one value of it. -/
theorem branchesTestOneFlag : Obligations.BranchesTestOneFlag := by
  unfold Obligations.BranchesTestOneFlag
  intro op8 s
  simp only [List.forall_mem_cons, List.not_mem_nil, false_implies, implies_true, and_true]
  exact ⟨⟨rfl, exec_branch s .n false rfl⟩, ⟨rfl, exec_branch s .n true rfl⟩, ⟨rfl, exec_branch s .v false rfl⟩,
    ⟨rfl, exec_branch s .v true rfl⟩, ⟨rfl, exec_branch s .c false rfl⟩, ⟨rfl, exec_branch s .c true rfl⟩,
    ⟨rfl, exec_branch s .z false rfl⟩, ⟨rfl, exec_branch s .z true rfl⟩⟩

/-- Settles O51: JSR is one word pushed, RTS one word pulled. -/
theorem callsAndReturns : Obligations.CallsAndReturns := by
  unfold Obligations.CallsAndReturns
  intro op16 s
  refine ⟨rfl, rfl, ⟨_, exec_jsr s op16, s.pushed_pushWord _, rfl, ?_⟩, ⟨_, exec_rts s, ?_⟩⟩
  · exact ⟨s.pushWord_a _, s.pushWord_x _, s.pushWord_y _, s.pushWord_p _, congrArg (· + 6) (s.pushWord_tick _),
      s.inputsKept_pushWord _⟩
  · exact ⟨congrArg (· + 1#16) s.pullWord_eq_peek, ⟨s.pullWord_a, s.pullWord_x, s.pullWord_y, s.pullWord_sp⟩, s.pullWord_p,
      .of_eq s.pullWord_ram s.pullWord_cart, s.pullWord_ppu, congrArg (· + 6) s.pullWord_tick, s.inputsKept_pullWord⟩

/-- Settles O52: RTS reads SP and two stack bytes only, so it pulls the word that JSR pushed. -/
theorem rtsReturnsBehindTheJsr : Obligations.RtsReturnsBehindTheJsr := by
  unfold Obligations.RtsReturnsBehindTheJsr
  intro op16 s
  refine ⟨_, exec_jsr s op16, fun v sp low high => ⟨_, exec_rts v, ?_⟩⟩
  obtain ⟨word, restored⟩ := s.pullWord_pushWord (s.pc + 2#16)
  obtain ⟨sameWord, sameSp⟩ := State.pullWord_congr (s := s.pushWord (s.pc + 2#16)) sp low high
  have next : v.pullWord.1 + 1#16 = s.pc + 3#16 := by
    rw [sameWord, word]; exact BitVec.add_assoc s.pc 2#16 1#16
  exact ⟨next, ⟨v.pullWord_a, v.pullWord_x, v.pullWord_y, sameSp.trans restored⟩, v.pullWord_p⟩

/-- Settles O53: BRK is an entry through $FFFE, whatever I holds; RTI pulls three bytes. -/
theorem brkAndRti : Obligations.BrkAndRti := by
  unfold Obligations.BrkAndRti
  intro s
  refine ⟨rfl, rfl, ⟨_, exec_brk s, s.pushed_enterVia _ _ (by decide) (by decide), ?_⟩, ⟨_, exec_rti s, ?_⟩⟩
  · obtain ⟨a, x, y, p, pc⟩ := s.registers_enterVia (s.pc + 1#16) (s.p ||| 0x10#8) (vector := 0xFFFE#16) (by decide) (by decide)
    exact ⟨p, pc, a, x, y, congrArg (· + 7) (s.tick_enterVia _ _ _), s.inputsKept_enterVia _ _ _⟩
  · rw [State.returnFromInterrupt_eq_peek]
    exact ⟨rfl, rfl, ⟨rfl, rfl, rfl, rfl⟩, .of_eq rfl rfl, rfl, rfl, .refl s⟩

/-- Settles O20: each of the three is an entry, NMI with its own latch cleared. -/
theorem rtiUndoesAnEntry : Obligations.RtiUndoesAnEntry := by
  unfold Obligations.RtiUndoesAnEntry
  intro s
  constructor
  · intro noReset pending
    obtain ⟨reset, -⟩ | ⟨-, -, nmi⟩ | ⟨-, -, -, -, irq⟩ | ⟨-, noNmi, blocked, -⟩ := s.takeRequest_cases
    · simp [noReset] at reset
    · obtain ⟨u, returns⟩ := exec_rti_enterVia (s.setNmiPending false) s.pc (withFlag s.p .b false) (vector := 0xFFFA#16)
        (by decide) (by decide)
      exact ⟨_, u, step_of_request s nmi, returns⟩
    · obtain ⟨u, returns⟩ := exec_rti_enterVia s s.pc (withFlag s.p .b false) (vector := 0xFFFE#16) (by decide) (by decide)
      exact ⟨_, u, step_of_request s irq, returns⟩
    · simp [noNmi] at pending
      simp [pending] at blocked
  · obtain ⟨u, returns⟩ := exec_rti_enterVia s (s.pc + 1#16) (s.p ||| 0x10#8) (vector := 0xFFFE#16) (by decide) (by decide)
    exact ⟨_, u, exec_brk s, returns⟩

end Sys2Proof.Machine
end

section
/-! The stack, the flag instructions, NOP and KIL (45_stack_flag_misc.md R159 to R172), and CLI and SEI before a boundary
(70_reset_and_hazards.md R200). -/

namespace Sys2Proof.Machine

section
variable (s : State)

/-! ### The stack instructions -/

/-- A pull answers the byte a read at SP answers, and moves SP alone (20_memory.md R56). -/
theorem State.pull_eq_peek : s.pull = (s.peek (stackAddr s.sp), s.setSp (s.sp + 1#8)) := by
  simp only [State.pull_eq, State.peek, route_stackAddr]

theorem State.push_setPc (pc : Addr) (v : Byte) : (s.setPc pc).push v = (s.push v).setPc pc := by
  rw [State.push_eq, State.push_eq]; rfl

/-- An instruction of one byte and 3 cycles that pushes `v`. -/
theorem exec_push_frame {i : Instr} {v : Byte}
    (pushes : exec i s = .next (((s.setPc (s.pc + 1#16)).push v).addTicks 3)) :
    ∃ t, exec i s = .next t ∧ Pushed s t [v] ∧ t.a = s.a ∧ t.x = s.x ∧ t.y = s.y ∧ t.p = s.p ∧ t.pc = s.pc + 1#16 ∧
      t.tick = s.tick + 3 ∧ InputsKept s t := by
  rw [State.push_setPc] at pushes
  exact ⟨_, pushes, s.pushed_push v, by simp, by simp, by simp, by simp, by simp, by simp, s.inputsKept_push v⟩

/-- PLA writes the byte at SP to A and moves SP up; the operand plays no part (R161). -/
theorem State.opPla_eq (ea : EA) :
    s.opPla ea = ((s.setSp (s.sp + 1#8)).setA (s.peek (stackAddr s.sp))).setZN (s.peek (stackAddr s.sp)) := by
  simp only [State.opPla, State.pull_eq_peek]

/-- PLP writes the byte at SP to P as it stands (R162). -/
theorem State.opPlp_eq (ea : EA) : s.opPlp ea = (s.setSp (s.sp + 1#8)).setP (s.peek (stackAddr s.sp)) := by
  simp only [State.opPlp, State.pull_eq_peek]

/-! ### The flag instructions -/

/-- An instruction that reads no operand and writes the flag `f` to `v`. -/
theorem exec_setFlag (i : Instr) (f : Flag) (v : Bool)
    (body : ∀ u : State, Op.body i.entry.op (s.resolved i).ea u = (u.readOperand (s.resolved i).ea).2.setFlag f v) :
    exec i s = .next ((s.pastOperand i).setFlag f v) :=
  exec_of_reads s i (fun _ u => u.setFlag f v) body fun _ _ _ => rfl

/-- Writing a flag writes P alone. -/
theorem State.setFlag_eq (f : Flag) (v : Bool) :
    s.setFlag f v = (s.setRegisters s.a s.x s.y s.sp).setP (withFlag s.p f v) := rfl

theorem exec_setFlag_frame (i : Instr) (f : Flag) (v : Bool)
    (body : ∀ u : State, Op.body i.entry.op (s.resolved i).ea u = (u.readOperand (s.resolved i).ea).2.setFlag f v) :
    ∃ t, exec i s = .next t ∧ t.flag f = v ∧ FlagsKept s t [f] ∧ RegsAre t s.a s.x s.y s.sp ∧ ReadFrame s t i := by
  refine ⟨_, exec_setFlag s i f v body, ?value, ?kept, ?registers, ?frame⟩
  case value => rw [State.flag_setFlag, if_pos rfl]
  case kept => exact ((s.pastOperand i).flagsKept_setFlag f v).of_p rfl
  case registers => simp [RegsAre]
  case frame => rw [State.setFlag_eq]; exact s.readFrame_pastOperand i _ _ _ _ _

/-- The IRQ level is taken when nothing of higher priority is requested and I is clear (60_exceptions.md R175, R181). -/
theorem step_of_irq (reset : s.resetReq = false) (nmi : s.nmiPending = false) (irq : s.irqLine = true)
    (enabled : s.flag .i = false) : step s = .next (s.enterInterrupt 0xFFFE#16) :=
  step_of_request s (by simp [State.takeRequest, reset, nmi, irq, enabled])

/-- With I set and neither RESET nor NMI requested, the boundary runs an instruction, whatever the IRQ level (60_exceptions.md
R175). -/
theorem step_of_disabled (reset : s.resetReq = false) (nmi : s.nmiPending = false) (disabled : s.flag .i = true) :
    step s = exec s.fetch.1 s.fetch.2 :=
  step_of_no_request s (by simp [State.takeRequest, reset, nmi, disabled])

/-! ### NOP and KIL -/

variable {s} {i : Instr}

/-- No NOP has the one mode whose pointer reads can change the picture generator. -/
theorem table_nop_mode : ∀ opcode : Byte, (table opcode).op = .nop → (table opcode).mode ≠ .ind := by
  decide +kernel

theorem exec_nop (h : i.entry.op = .nop) : exec i s = .next { s with pc := s.nextPc i, tick := s.tick + s.cost i } := by
  have resolved : (s.resolve i.entry.mode i.operand).state = s := s.resolve_state_of_ne_ind (table_nop_mode i.opcode h) i.operand
  rw [exec_eq_after, State.after, h, resolved]
  rfl

/-- Every KIL has one row: implied mode, 2 cycles, no page-cross cycle, undocumented (R172). -/
theorem table_kil : ∀ opcode : Byte, (table opcode).op = .kil → table opcode = ⟨.kil, .imp, 2, false, false⟩ := by
  decide +kernel

/-- What KIL leaves is RESET's state, 2 cycles later; the advanced PC is overwritten by the vector. -/
theorem exec_kil (h : i.entry.op = .kil) : exec i s = .next (s.resetSequence.addTicks 2) := by
  have row : i.entry = ⟨.kil, .imp, 2, false, false⟩ := table_kil i.opcode h
  calc
    exec i s = .next ((s.setPc (s.pc + 1#16)).resetSequence.addTicks 2) := by rw [exec_eq_after, row]; rfl
    _ = _ := by rw [State.resetSequence_eq, State.resetSequence_eq]; rfl

end

/-- Settles O54: PHA and PHP are one push, PLA and PLP one pull. -/
theorem stackInstructions : Obligations.StackInstructions := by
  unfold Obligations.StackInstructions
  intro s
  refine ⟨?pushes, ⟨rfl, ?pla⟩, ⟨rfl, ?plp⟩⟩
  case pushes =>
    simp only [List.forall_mem_cons, List.not_mem_nil, false_implies, implies_true, and_true]
    exact ⟨⟨rfl, exec_push_frame s rfl⟩, ⟨rfl, exec_push_frame s rfl⟩⟩
  case pla =>
    obtain ⟨t, next, ⟨a, others⟩, zn, kept, frame⟩ := exec_setZN_frame s .pla (fun _ u => u.opPla .implied) (fun _ => rfl)
      (fun _ u n => by rw [State.opPla_eq, State.opPla_eq]; rfl) ((s.pastOperand .pla).opPla_eq .implied)
    exact ⟨t, next, ⟨a, others⟩, a.symm ▸ zn, kept, frame⟩
  case plp =>
    have next := exec_of_reads s .plp (fun _ u => u.opPlp .implied) (fun _ => rfl)
      (fun _ u n => by rw [State.opPlp_eq, State.opPlp_eq]; rfl)
    rw [State.opPlp_eq] at next
    exact ⟨_, next, by simp [RegsAre], rfl, s.readFrame_pastOperand .plp s.a s.x s.y (s.sp + 1#8) _⟩

/-- Settles O55: each mnemonic writes one flag to one value. -/
theorem flagInstructionsWriteOneFlag : Obligations.FlagInstructionsWriteOneFlag := by
  unfold Obligations.FlagInstructionsWriteOneFlag
  intro s
  simp only [List.forall_mem_cons, List.not_mem_nil, false_implies, implies_true, and_true]
  exact ⟨⟨rfl, exec_setFlag_frame s .clc .c false fun _ => rfl⟩, ⟨rfl, exec_setFlag_frame s .cld .d false fun _ => rfl⟩,
    ⟨rfl, exec_setFlag_frame s .cli .i false fun _ => rfl⟩, ⟨rfl, exec_setFlag_frame s .clv .v false fun _ => rfl⟩,
    ⟨rfl, exec_setFlag_frame s .sec .c true fun _ => rfl⟩, ⟨rfl, exec_setFlag_frame s .sed .d true fun _ => rfl⟩,
    ⟨rfl, exec_setFlag_frame s .sei .i true fun _ => rfl⟩⟩

/-- Settles O19: neither instruction touches a request, and the next boundary sees the I it has written. -/
theorem interruptDisableCountsAtTheNextBoundary : Obligations.InterruptDisableCountsAtTheNextBoundary := by
  unfold Obligations.InterruptDisableCountsAtTheNextBoundary
  intro s reset nmi irq
  constructor
  · let t := (s.pastOperand .cli).setFlag .i false
    obtain ⟨-, -, -, -, pc⟩ := t.registers_enterVia t.pc (withFlag t.p .b false) (vector := 0xFFFE#16) (by decide) (by decide)
    exact ⟨t, _, exec_setFlag s .cli .i false fun _ => rfl, step_of_irq t reset nmi irq (by simp [t]),
      t.pushed_enterVia t.pc _ (by decide) (by decide), pc⟩
  · exact ⟨_, exec_setFlag s .sei .i true fun _ => rfl, step_of_disabled _ reset nmi (by simp)⟩

/-- Settles O56: every NOP has the operation that does nothing, in a mode whose pointer reads leave no trace. -/
theorem nopsOnlyAdvance : Obligations.NopsOnlyAdvance := by
  unfold Obligations.NopsOnlyAdvance
  intro op8 op16 s
  exact forall_forms .nop (by simp only [List.map]; rfl) fun _ => exec_nop

/-- Settles O57: every KIL has the operation that performs RESET, in a row of 2 cycles. -/
theorem kilResets : Obligations.KilResets := by
  unfold Obligations.KilResets
  intro s
  refine forall_forms .kil (by simp only [List.map]; rfl) fun _ h => ?_
  rw [exec_kil h, State.resetSequence_eq]
  rfl

end Sys2Proof.Machine
end

section
/-! RESET, NMI and IRQ at a boundary (60_exceptions.md R175 to R183), and the cycles every boundary adds
(70_reset_and_hazards.md R205). -/

namespace Sys2Proof.Machine

section
variable (s : State)

/-- A latched NMI is taken when no RESET is requested, and its latch is cleared on the way in (60_exceptions.md R175, R176). -/
theorem step_of_nmi (reset : s.resetReq = false) (nmi : s.nmiPending = true) :
    step s = .next ((s.setNmiPending false).enterInterrupt 0xFFFA#16) :=
  step_of_request s (by simp [State.takeRequest, reset, nmi])

/-- What NMI and IRQ entry share: the pushed frame, the registers, the cycles and the inputs (60_exceptions.md R180, R181, R183). -/
theorem State.enterInterrupt_frame {vector : Addr} (h : 0x4018 ≤ vector.toNat) (h' : vector.toNat < 0xFFFF) :
    let t := s.enterInterrupt vector
    Pushed s t [hiByte s.pc, loByte s.pc, s.p &&& 0xEF#8] ∧ t.a = s.a ∧ t.x = s.x ∧ t.y = s.y ∧ t.p = s.p ||| 0x04#8 ∧
      t.pc = wordOf (s.cart.read vector) (s.cart.read (vector + 1#16)) ∧ t.tick = s.tick + 7 ∧ InputsKept s t := by
  obtain ⟨a, x, y, p, pc⟩ := s.registers_enterVia s.pc (s.p &&& 0xEF#8) h h'
  have pushed : Pushed s (s.enterInterrupt vector) [hiByte s.pc, loByte s.pc, withFlag s.p .b false] :=
    s.pushed_enterVia s.pc _ h h'
  rw [withFlag_b_false] at pushed
  exact ⟨pushed, a, x, y, p, pc, s.tick_enterInterrupt vector, s.inputsKept_enterInterrupt vector⟩

end

/-- Settles O13: RESET leaves `tick` alone; an entry takes 7 cycles, and an instruction at least the 2 of its row. -/
theorem everyBoundaryButResetTakesCycles : Obligations.EveryBoundaryButResetTakesCycles := by
  unfold Obligations.EveryBoundaryButResetTakesCycles
  intro s
  cases reset : s.resetReq with
  | true => exact ⟨_, step_of_resetReq reset, fun _ => s.tick_resetSequence, nofun⟩
  | false =>
    obtain ⟨t, next, -⟩ := step_progress s
    exact ⟨t, next, nofun, fun _ => tick_add_two_le_of_step s next reset⟩

/-- Settles O17: the boundary is an entry through $FFFA from the state with its latch cleared, which has the same registers and
memory. -/
theorem nmiEntry : Obligations.NmiEntry := by
  unfold Obligations.NmiEntry
  intro s reset nmi
  obtain ⟨pushed, a, x, y, p, pc, tick, inputs⟩ :=
    (s.setNmiPending false).enterInterrupt_frame (vector := 0xFFFA#16) (by decide) (by decide)
  obtain ⟨irqLine, resetReq, nmiPending, params, frame⟩ := inputs.of_unlatched reset rfl
  exact ⟨_, step_of_nmi s reset nmi, pushed, a, x, y, p, pc, tick, resetReq, nmiPending, irqLine, params, frame⟩

/-- Settles O18: the boundary is the same entry through $FFFE; the level stays driven. -/
theorem irqEntry : Obligations.IrqEntry := by
  unfold Obligations.IrqEntry
  intro s reset nmi irq enabled
  exact ⟨_, step_of_irq s reset nmi irq enabled, s.enterInterrupt_frame (by decide) (by decide)⟩

/-- Settles O16: a requested RESET is taken whatever else is pending, and what it leaves is known field by field. -/
theorem resetRequestIsTakenFirst : Obligations.ResetRequestIsTakenFirst := by
  unfold Obligations.ResetRequestIsTakenFirst
  intro s reset
  rw [step_of_resetReq reset, State.resetSequence_eq]

end Sys2Proof.Machine
end

section
/-! The cycles of every instruction, term by term, and the opcodes that pay for a page cross (70_reset_and_hazards.md R205 to
R207). -/

namespace Sys2Proof.Machine

/-! ### The terms of the sum that are not in an opcode's row -/

/-- Cycles a branch adds to its row's, `next` being PC behind it and `pc` where it leaves PC (70_reset_and_hazards.md R207). -/
def branchCycles (taken : Bool) (next pc : Addr) : Nat :=
  (if taken = true then 1 else 0) + (if taken = true ∧ hiByte next ≠ hiByte pc then 1 else 0)

@[simp] theorem branchCycles_not_taken (next pc : Addr) : branchCycles false next pc = 0 := by simp [branchCycles]

/-- Cycles an operation adds by the DMA that its store starts, `t0` being `tick` at its start (20_memory.md R49). -/
def storeCycles (op : Op) (ea : EA) (t0 : Nat) : Nat :=
  if writesOperand op = true ∧ ea = .mem 0x4014#16 then 513 + t0 % 2 else 0

theorem storeCycles_of_not_writes {op : Op} (h : writesOperand op = false) (ea : EA) (t0 : Nat) : storeCycles op ea t0 = 0 := by
  simp [storeCycles, h]

section
variable (s : State)

/-- The eight branches are one operation, on the conditions of 44_control_flow.md R146 to R153. -/
theorem Op.body_branch {op : Op} (h : op ∈ [Op.bpl, .bmi, .bvc, .bvs, .bcc, .bcs, .bne, .beq]) (ea : EA) :
    Op.body op ea s = s.branch (s.takes op) ea := by
  cases op with
  | bpl | bvc | bcc | bne => exact congrArg (s.branch · ea) (beq_false _)
  | bmi | bvs | bcs | beq => exact congrArg (s.branch · ea) (beq_true _)
  | _ => exact absurd h (by decide)

theorem State.tick_branch (taken : Bool) (ea : EA) :
    (s.branch taken ea).tick = s.tick + branchCycles taken s.pc (s.branch taken ea).pc := by
  cases taken with
  | false => rw [State.branch_not_taken, branchCycles_not_taken]; rfl
  | true =>
    have lands : (s.branch true ea).pc = (s.jumpTo ea).pc := rfl
    have adds : (s.branch true ea).tick =
        (s.jumpTo ea).tick + (1 + if hiByte s.pc ≠ hiByte (s.jumpTo ea).pc then 1 else 0) := rfl
    rw [adds, lands, State.tick_jumpTo]
    simp [branchCycles]

/-- A store takes cycles by the DMA alone. An immediate is the one operand with an address that no operation writes. -/
theorem State.tick_writeOperand {op : Op} (writes : writesOperand op = true) {ea : EA} (h : ∀ a m, ea ≠ .imm a m) (v : Byte) :
    (s.writeOperand ea v).tick = s.tick + storeCycles op ea s.tick := by
  cases ea with
  | implied => simp [State.writeOperand, storeCycles]
  | imm a m => exact absurd rfl (h a m)
  | mem a => simp [State.writeOperand, storeCycles, dmaCycles, writes]

theorem State.tick_modifyOperand {op : Op} (writes : writesOperand op = true) {ea : EA} (h : ∀ a m, ea ≠ .imm a m) (v : Byte) :
    ((s.readOperand ea).2.writeOperand ea v).tick = s.tick + storeCycles op ea s.tick := by
  rw [State.tick_writeOperand _ writes h, State.readOperand_tick]

/-! ### Operations and instructions -/

theorem State.tick_returnFromInterrupt : s.returnFromInterrupt.tick = s.tick := by
  rw [State.returnFromInterrupt_eq]

/-- The cycles an operation takes on its own: a branch those of R207, a store those of its DMA, any other none. -/
theorem Op.tick_body (op : Op) {ea : EA} (h : writesOperand op = true → ∀ a m, ea ≠ .imm a m) :
    (Op.body op ea s).tick =
      s.tick + branchCycles (s.takes op) s.pc (Op.body op ea s).pc + storeCycles op ea s.tick := by
  cases op with
  | bpl | bmi | bvc | bvs | bcc | bcs | bne | beq =>
    rw [Op.body_branch s (by decide)]; exact s.tick_branch _ ea
  | sta | stx | sty => exact s.tick_writeOperand rfl (h rfl) _
  | inc | dec | asl | lsr | rol | ror => exact s.tick_modifyOperand rfl (h rfl) _
  | lda | ldx | ldy | adc | sbc | cmp | cpx | cpy | and | ora | eor | bit => exact s.readOperand_tick ea
  | tax | tay | txa | tya | tsx | txs | inx | iny | dex | dey => rfl
  | clc | cld | cli | clv | sec | sed | sei | nop => rfl
  | jmp => exact s.tick_jumpTo ea
  | jsr => exact (State.tick_jumpTo _ ea).trans (s.pushWord_tick _)
  | rts => exact s.pullWord_tick
  | brk => exact s.tick_enterVia _ _ _
  | rti => exact s.tick_returnFromInterrupt
  | pha | php => exact s.push_tick _
  | pla | plp => exact s.pull_tick
  | kil => exact s.tick_resetSequence

/-- Whether a branch is taken depends on P alone. -/
theorem State.takes_congr {t : State} (h : t.p = s.p) (op : Op) : t.takes op = s.takes op := by
  cases op <;> simp [State.takes, State.flag, h]

/-- R205 for a row of the table that stores to no immediate. -/
theorem State.tick_after {e : Entry} (h : writesOperand e.op = true → e.mode ≠ .imm) (w : Addr) :
    (s.after e w).tick = s.tick + e.base + (if e.pen = true ∧ (s.resolve e.mode w).cross = true then 1 else 0)
      + branchCycles (s.takes e.op) (s.pc + BitVec.ofNat 16 e.mode.length) (s.after e w).pc
      + storeCycles e.op (s.resolve e.mode w).ea s.tick := by
  let u := (s.resolve e.mode w).state.setPc (s.pc + BitVec.ofNat 16 e.mode.length)
  have body := Op.tick_body u e.op (ea := (s.resolve e.mode w).ea)
    fun writes _ _ imm => h writes (State.resolve_ea_eq_imm imm).1
  have takes : u.takes e.op = s.takes e.op := s.takes_congr (s.resolve_p e.mode w) e.op
  have tick : u.tick = s.tick := s.resolve_tick e.mode w
  rw [takes, tick] at body
  rw [State.after, State.addTicks_tick, body]
  simp only [Bool.and_eq_true]
  ac_rfl

end

/-- No row of the table stores to an immediate (30_encoding.md R77). -/
theorem table_writesOperand_mode : ∀ opcode : Byte, writesOperand (table opcode).op = true → (table opcode).mode ≠ .imm := by
  decide +kernel

/-- The cycles of an instruction, from its row of the table. -/
theorem exec_tick (i : Instr) (s : State) : ∃ t, exec i s = .next t ∧
    t.tick = s.tick + i.entry.base + (if i.entry.pen = true ∧ (s.resolved i).cross = true then 1 else 0)
      + branchCycles (s.takes i.entry.op) (s.nextPc i) t.pc + storeCycles i.entry.op (s.resolved i).ea s.tick :=
  ⟨_, exec_eq_after i s, s.tick_after (table_writesOperand_mode i.opcode) i.operand⟩

/-- Settles O14: the row gives the base and the page cross, the operation the rest. -/
theorem instructionCycleAccounting : Obligations.InstructionCycleAccounting := by
  unfold Obligations.InstructionCycleAccounting
  intro i s
  obtain ⟨t, next, tick⟩ := exec_tick i s
  exact ⟨t, next, by rw [tick, branchCycles, storeCycles, ← Nat.add_assoc]⟩

/-! ### The opcodes that pay for a page cross (70_reset_and_hazards.md R206) -/

theorem table_pen_iff (opcode : Byte) : (table opcode).pen = true ↔ opcode ∈ pageCrossOpcodes :=
  List.contains_iff_mem

/-- The list of R206 by operation and mode: the reading operations in their indexed modes, and nine undocumented opcodes. -/
theorem mem_pageCrossOpcodes_iff : ∀ opcode : Byte, opcode ∈ pageCrossOpcodes ↔
    ((table opcode).op ∈ [Op.ora, .and, .eor, .adc, .lda, .cmp, .sbc] ∧ (table opcode).mode ∈ [Mode.absX, .absY, .indY]) ∨
    ((table opcode).op = .ldx ∧ (table opcode).mode = .absY) ∨ ((table opcode).op = .ldy ∧ (table opcode).mode = .absX) ∨
    opcode ∈ [0x1C#8, 0x3C#8, 0x5C#8, 0x7C#8, 0xDC#8, 0xFC#8, 0xB3#8, 0xBF#8, 0xBB#8] := by
  decide +kernel

/-- The operations of the 32. -/
theorem table_op_of_pageCross : ∀ opcode ∈ pageCrossOpcodes,
    (table opcode).op ∈ [Op.ora, .and, .eor, .adc, .lda, .cmp, .sbc, .ldx, .ldy, .nop] := by
  decide +kernel

/-- None of them branches or stores. -/
theorem not_takes_not_writes_of_pageCross (s : State) {op : Op}
    (h : op ∈ [Op.ora, .and, .eor, .adc, .lda, .cmp, .sbc, .ldx, .ldy, .nop]) :
    s.takes op = false ∧ writesOperand op = false := by
  cases op with
  | ora | and | eor | adc | lda | cmp | sbc | ldx | ldy | nop => exact ⟨rfl, rfl⟩
  | _ => exact absurd h (by decide)

/-- Settles O5: `pen` in an opcode's row says whether it is listed. A listed opcode neither branches nor stores, and for any other
the page-cross term of R205 is 0. -/
theorem pageCrossCycleIsChargedByTheListedOpcodes : Obligations.PageCrossCycleIsChargedByTheListedOpcodes := by
  unfold Obligations.PageCrossCycleIsChargedByTheListedOpcodes
  intro i s
  have pen : i.entry.pen = true ↔ i.opcode ∈ pageCrossOpcodes := table_pen_iff i.opcode
  obtain ⟨t, next, tick⟩ := exec_tick i s
  refine ⟨mem_pageCrossOpcodes_iff i.opcode, pen, t, next, fun listed => ?_, fun unlisted => ?_⟩
  · obtain ⟨takes, writes⟩ : s.takes i.entry.op = false ∧ writesOperand i.entry.op = false :=
      not_takes_not_writes_of_pageCross s (table_op_of_pageCross i.opcode listed)
    rw [tick, takes, branchCycles_not_taken, storeCycles_of_not_writes writes]
    simp [pen.mpr listed]
  · rw [tick, if_neg fun charged => unlisted (pen.mp charged.1), branchCycles, storeCycles, Nat.add_zero, ← Nat.add_assoc]

end Sys2Proof.Machine
end
